-- ==== Sys2Proof/Word.lean ====
section
/-! DEFINITION. The widths of the part's values (spec/00_scope.md, "Conventions"): bytes, words, addresses,
line numbers, generations and the indices of its fixed arrays. -/

namespace Sys2Proof

/-- One byte of a frame, record or image. -/
abbrev Byte := BitVec 8

/-- A word: four bytes (00_scope, Conventions). -/
abbrev Word := BitVec 32

/-- Host line number: host byte address divided by 32, 23 bits. -/
abbrev LineNumber := BitVec 23

/-- Downstream line number, 21 bits. -/
abbrev DownLine := BitVec 21

/-- Downstream byte address within one chip enable, 26 bits. -/
abbrev DownAddr := BitVec 26

/-- Host word address HA[25:0] (R109); the host byte address is four times this. -/
abbrev HostWordAddr := BitVec 26

/-- Generation of a set, 0 to 65535 (R1). -/
abbrev Generation := BitVec 16

/-- Index of a line of the line store, 0 to 255 (R22). -/
abbrev LineIdx := Fin 256

/-- Slot of a patch table, 0 to 63 (R1). -/
abbrev Slot := Fin 64

/-- Word index within a line, 0 to 7. -/
abbrev WordIdx := Fin 8

end Sys2Proof
end

