-- ==== Sys2Proof/Config.lean ====
section
/-! DEFINITION. Fixed numbers of the part, and the two free values the spec leaves open. -/

namespace Sys2Proof.Config

/-- FREE VALUE (R142, R118, R70; log 11): when one step brings the TRU both a record and the notice of its
trigger source, whether the record is taken first. The argument is `State.orderChoices`. -/
opaque recordFirst : Nat → Bool

/-- FREE VALUE (R165; log 11): when the last CRC byte of a request frame and that of the response going out are clocked
as one and the same byte, whether the response leaves the queue first. The argument is `State.orderChoices`. -/
opaque responseFirst : Nat → Bool

/-- The places of the trace buffer (R135). -/
def traceCapacity : Nat := 512

/-- The entries the command queue holds (R161). -/
def commandCapacity : Nat := 4

/-- The responses, queued commands and executing command together (R165). -/
def portCapacity : Nat := 8

/-- The longest request payload (R163). -/
def maxRequestPayload : Nat := 56

/-- The ready timeout of both chip enables after reset, in microseconds (R124). -/
def resetTimeout : BitVec 8 := 50

/-- Magic of an image header (R182). -/
def imageMagic : Nat := 0x3153505A

/-- Downstream size of one chip enable, 64 MiB. -/
def downstreamSize : Nat := 0x4000000

/-- One past the last host line number (R60). -/
def hostLines : Nat := 0x800000

/-- The last byte offset at which an image may start (R82). -/
def maxImageOffset : Nat := 0x3FFF4E0

/-- CE0 offset of image slot `k` (R80). -/
def imageSlotOffset (k : Nat) : Nat := 0x00F00000 + k * 0x1000

end Sys2Proof.Config
end

