-- ==== Sys2Proof/Syntax.lean ====
section
/-! DEFINITION. The commands of the block: one constructor per row of spec/opcode_table.json, with the signals
or bytes that the outside supplies with the step. -/

namespace Sys2Proof

/-- What the host drives for one write beat: HWD and HBEN (R109). -/
structure WriteBeat where
  data    : Word
  enables : BitVec 4
deriving DecidableEq, Repr

/-- One presentation on the host bus (R109, R110): HA, HWR, HFETCH, HLEN and, for a write, what the host drives
at each beat in turn. -/
structure HostRequest where
  addr   : HostWordAddr
  write  : Bool
  fetch  : Bool
  len    : BitVec 2
  writes : List WriteBeat
deriving DecidableEq, Repr

/-- A disturbance of one store word (R23; log 6): the content its cells now hold, and whether the check value
stored with it still agrees with that content. -/
structure Upset where
  line   : LineIdx
  word   : WordIdx
  data   : Word
  agrees : Bool
deriving DecidableEq, Repr

/-- The commands (spec/opcode_table.json). The service commands carry no operand of their own: the executor takes
tag and payload from the head of the command queue (R168). -/
inductive Instr where
  | pinReset
  | pinResetEnd (bootMode imgSel : BitVec 2)
  | serviceReset
  | timeBaseStep
  | hostRequest (req : HostRequest)
  | requestWithdrawn
  | acceptance (upsets : List Upset)
  | accessComplete (md : Word) (upsets : List Upset)
  | accessExpiry
  | effectPoint
  | gateTimerExpiry
  | revertEffect
  | selectPeriodStart
  | statusHeaderSent (bytes : List Byte)
  | responseSent (bytes : List Byte)
  | requestFrame (bytes : List Byte)
  | selectPeriodEnd (bytes : List Byte)
  | unknownCommand
  | echo
  | identify
  | resetPart
  | readEntry (upsets : List Upset)
  | queryStore
  | scrubLine (upsets : List Upset)
  | setFreeThreshold
  | openSet
  | cloneActive
  | addEntry
  | modifyEntry
  | removeEntry
  | sealSet
  | unsealSet
  | verifySet (upsets : List Upset)
  | discardSet
  | querySets
  | commit
  | cancelCommit
  | revert
  | clearRetained
  | loadImage
  | releaseHost
  | setRegion
  | readRegion
  | setBackground
  | setMemoryTiming
  | traceConfigure
  | traceStart
  | traceStop
  | traceRead
  | traceClear
  | traceStatus
  | eventConfig
  | takeEvent
  | finishEvent
  | eventStatus
  | raiseEvent
  | malformedRequest (bytes : List Byte)
deriving DecidableEq, Repr

end Sys2Proof
end

