-- ==== Sys2Proof/WellFormed.lean ====
section
/-! DEFINITION. Which commands are well formed. Widths are in the types; what is left is that a host write
supplies exactly one write beat for each beat that HLEN names, and a read none (R110, R116). -/

namespace Sys2Proof

/-- Beat count that HLEN names (R109): 1, 2, 4 or 8. -/
def beatCount (len : BitVec 2) : Nat := 2 ^ len.toNat

/-- A write supplies HWD and HBEN for every beat; a read supplies none (R109). -/
def HostRequest.wellFormed (r : HostRequest) : Bool :=
  r.writes.length == (if r.write then beatCount r.len else 0)

/-- Well-formed commands. -/
def Instr.wellFormed : Instr → Bool
  | .hostRequest r => r.wellFormed
  | _ => true

end Sys2Proof
end

