-- ==== Sys2Proof/Machine/State.lean ====
section
/-! DEFINITION. The state of the ZP256: every register, table, list, queue and mode that spec/ gives it, as plain
data, and the state after reset. The rule that names each piece is in its docstring; INVENTORY.md lists them all. -/

namespace Sys2Proof.Machine

open Sys2Proof

/-! ### Names with fixed values (R175) -/

/-- Memory-side chip enable (R123). -/
inductive ChipEnable where
  | ce0 | ce1
deriving DecidableEq, Repr

/-- Letter of a patch table (R1). -/
inductive Letter where
  | a | b | c
deriving DecidableEq, Repr

/-- Role of a patch table (R1). -/
inductive Role where
  | active | staged | retained
deriving DecidableEq, Repr

/-- Verification result of a set record (R1). -/
inductive VerifyResult where
  | none | ok | crcMismatch | badLine | originMismatch | originUnreadable
deriving DecidableEq, Repr

/-- Which host transactions a WATCH entry counts (R2). -/
inductive WatchDir where
  | reads | writes | both
deriving DecidableEq, Repr

/-- Kind of a region (R97). -/
inductive RegionKind where
  | pass | patchable | blocked
deriving DecidableEq, Repr

/-- Kind of the background rule: never PATCHABLE (R98). -/
inductive BackgroundKind where
  | pass | blocked
deriving DecidableEq, Repr

/-- What becomes of host writes (R97). -/
inductive WritePolicy where
  | forward | discard | refuse
deriving DecidableEq, Repr

/-- Outcome of a host transaction (R117). -/
inductive TxnOutcome where
  | pass | substituted | merged | redirected | watched | fallback | blocked | refused | discarded | failed
deriving DecidableEq, Repr

/-- The eight staged-set states (R39). -/
inductive StagedState where
  | empty | opened | loading | sealed | verifying | verified | failed | commitPending
deriving DecidableEq, Repr

/-- Mode of a commit (R59). -/
inductive CommitMode where
  | atBoundary | gated
deriving DecidableEq, Repr

/-- Who asked for a commit (R59). -/
inductive CommitRequester where
  | service | startUp
deriving DecidableEq, Repr

/-- What started the verification in progress (R40, R57). -/
inductive VerifyStarter where
  | verifySet | commandLoad | startUpLoad
deriving DecidableEq, Repr

/-- Start-up mode latched from BOOTMODE (R80). -/
inductive StartMode where
  | pass | loadHold | loadPass | hold
deriving DecidableEq, Repr

/-- Start-up phase (R90). -/
inductive StartPhase where
  | held | loading | running
deriving DecidableEq, Repr

/-- Loader state (R81). -/
inductive LoaderState where
  | idle | header | body | verify | commit
deriving DecidableEq, Repr

/-- Kind of the load in hand (R81). -/
inductive LoadKind where
  | command | startUp
deriving DecidableEq, Repr

/-- Reasons of a load that fails in stage PARSE (R87). -/
inductive ParseReason where
  | badMagic | badVersion | badHeaderCrc | badCount | badHeaderField | badRecord | duplicate | noLine
  | lengthMismatch | readTimeout
deriving DecidableEq, Repr

/-- The three requesters of the memory port (R124). -/
inductive Requester where
  | host | loader | verifier
deriving DecidableEq, Repr

/-- Capture state of the trace unit (R135). -/
inductive CaptureState where
  | off | capturing | armed | post | stopped
deriving DecidableEq, Repr

/-- Configured capture mode (R144). -/
inductive CaptureMode where
  | wrap | stop | triggered
deriving DecidableEq, Repr

/-- What fired the trigger (R135). -/
inductive TriggerCause where
  | none | address | event
deriving DecidableEq, Repr

/-- Kind of a role-change marker (R138). -/
inductive MarkerKind where
  | commit | revert
deriving DecidableEq, Repr

/-- The fourteen event sources, in the order of their numbers 1 to 14 (R150). -/
inductive EventSource where
  | loadResult | verifyDone | commitResult | firstHit | watchReached | writeUnderPatch | accessRefused
  | downstreamTimeout | freeLow | traceStopped | frameError | software | lineFault | startFailed
deriving DecidableEq, Repr

/-- The SVP's verdict on a select period (R161). -/
inductive Verdict where
  | accepted | refusedFull | refusedCrc | refusedFormat | poll
deriving DecidableEq, Repr

/-- Result code of a response (section 11.7). -/
inductive ResultCode where
  | ok | busyState | noLine | tableFull | duplicate | notFound | badArgument | generationLow | notVerified
  | badLine | notPending | notHeld | noEvent | notInService | scrubFailed | unknownCommand
deriving DecidableEq, Repr

/-! ### Line store (chapter 2) -/

/-- One store word with its check value, which is held as whether it agrees with the word (R22; log 5). -/
structure StoreWord where
  data   : Word
  agrees : Bool
deriving DecidableEq, Repr

/-- One store line: eight words, reference count and bad mark (R22, R24, R31). -/
structure StoreLine where
  words    : Vector StoreWord 8
  refCount : Nat
  bad      : Bool
deriving DecidableEq, Repr

/-- The line store: 256 lines, the two ordered lists, the free-count threshold (R22, R25, R34). -/
structure LineStore where
  lines     : Vector StoreLine 256
  freeList  : List LineIdx
  badList   : List LineIdx
  threshold : BitVec 8
deriving DecidableEq, Repr

/-! ### Patch tables (chapter 1) -/

/-- Kind of an entry with the fields of that kind (R2, R3). -/
inductive EntryBody where
  | substitute (mask : BitVec 8) (storeLine : LineIdx)
  | redirect (ce : ChipEnable) (target : DownLine)
  | watch (threshold : BitVec 16) (dir : WatchDir)
deriving DecidableEq, Repr

/-- One entry of a patch table (R2). -/
structure Entry where
  line           : LineNumber
  body           : EntryBody
  origin         : Option (BitVec 16)
  reportFirstHit : Bool
  hitCount       : BitVec 16
deriving DecidableEq, Repr

/-- One patch table with its set record; the entry count is the number of occupied slots (R1). -/
structure Table where
  slots       : Vector (Option Entry) 64
  generation  : Generation
  expectedCrc : Word
  result      : VerifyResult
deriving DecidableEq, Repr

/-- Tables A, B and C (R1). -/
structure Tables where
  a : Table
  b : Table
  c : Table
deriving DecidableEq, Repr

/-- Which table carries each role (R1). -/
structure Roles where
  active   : Letter
  staged   : Letter
  retained : Letter
deriving DecidableEq, Repr

/-! ### Entry records as they travel (R178) -/

/-- Kind of an entry record (R175). -/
inductive EntryKind where
  | substitute | redirect | watch
deriving DecidableEq, Repr

/-- The fixed part of an entry record (R178). -/
structure FixedPart where
  line      : LineNumber
  kind      : EntryKind
  mask      : BitVec 8
  hasOrigin : Bool
  report    : Bool
deriving DecidableEq, Repr

/-- Kind-specific part of an entry record: a SUBSTITUTE carries its data words in ascending word index (R3). -/
inductive RecordBody where
  | substitute (mask : BitVec 8) (data : List Word)
  | redirect (ce : ChipEnable) (target : DownLine)
  | watch (threshold : BitVec 16) (dir : WatchDir)
deriving DecidableEq, Repr

/-- An entry record (R178). -/
structure EntryRecord where
  line   : LineNumber
  body   : RecordBody
  origin : Option (BitVec 16)
  report : Bool
deriving DecidableEq, Repr

/-! ### Set control unit (chapters 3 and 4) -/

/-- A verification in progress (R51, R52): who started it, entries passed, running CRC-32 register, and the
origin words already read of the entry in hand. -/
structure VerifyRun where
  starter : VerifyStarter
  passed  : Nat
  crc     : Word
  origin  : List Word
deriving DecidableEq, Repr

/-- Mode, window and timeout of a commit request (R59). -/
structure CommitArgs where
  mode       : CommitMode
  gateBase   : LineNumber
  gateLength : Nat
  timeout    : BitVec 16
deriving DecidableEq, Repr

/-- The pending commit (R59); `gateOpen` says that a transaction has opened its gate and the effect point is due
at this boundary (R64). -/
structure PendingCommit where
  args      : CommitArgs
  deadline  : Option Word
  requester : CommitRequester
  gateOpen  : Bool
deriving DecidableEq, Repr

/-- The SCU's own state beside the tables (R39, R51, R57, R59). `deferred` is a start-up commit requested while
a REVERT waits for its boundary (R59). -/
structure Scu where
  state       : StagedState
  verifier    : Option VerifyRun
  commit      : Option PendingCommit
  deferred    : Option CommitArgs
  computedCrc : Word
deriving DecidableEq, Repr

/-! ### Image loader (chapter 5) -/

/-- The image loader (R81); `record` holds the bytes read so far of the record in hand (R84). -/
structure Loader where
  state     : LoaderState
  kind      : LoadKind
  ce        : ChipEnable
  cursor    : DownAddr
  header    : List Byte
  remaining : Nat
  sum       : Nat
  record    : List Byte
deriving DecidableEq, Repr

/-! ### Region table (chapter 6) -/

/-- One region record (R97). -/
structure RegionRecord where
  enabled : Bool
  base    : BitVec 28
  sizeExp : BitVec 4
  kind    : RegionKind
  ce      : ChipEnable
  offset  : DownAddr
  wait    : BitVec 4
  policy  : WritePolicy
  trace   : Bool
deriving DecidableEq, Repr

/-- The settable fields of the background rule (R98). -/
structure Background where
  kind   : BackgroundKind
  wait   : BitVec 4
  policy : WritePolicy
  trace  : Bool
deriving DecidableEq, Repr

/-- The region table (R97, R98). -/
structure RegionTable where
  records    : Vector RegionRecord 8
  background : Background
deriving DecidableEq, Repr

/-- The classification of a host address (R99), with what the decision record copies of it (R101); `record` is
`none` for BACKGROUND. -/
structure Classification where
  record : Option (Fin 8)
  kind   : RegionKind
  base   : BitVec 28
  ce     : ChipEnable
  offset : DownAddr
  wait   : BitVec 4
  policy : WritePolicy
  trace  : Bool
deriving DecidableEq, Repr

/-! ### Host bus interface (chapter 7) -/

/-- Source of one read beat (R8). -/
inductive BeatSource where
  | memory
  | store (line : LineIdx)
  | target (ce : ChipEnable) (line : DownLine)
deriving DecidableEq, Repr

/-- The decision record (R115). -/
structure Decision where
  addr       : HostWordAddr
  write      : Bool
  fetch      : Bool
  len        : BitVec 2
  region     : Classification
  letter     : Letter
  generation : Generation
  slot       : Option Slot
  plan       : List BeatSource
deriving DecidableEq, Repr

/-- The transaction in flight: its decision record, the beats transferred so far, whether a beat fell back (R12),
and what the host drives for the write beats still to come (R116). -/
structure Txn where
  dec      : Decision
  done     : Nat
  fellBack : Bool
  writes   : List WriteBeat
deriving DecidableEq, Repr

/-- Transaction state (R112). -/
inductive HbiState where
  | idle
  | waiting (req : HostRequest)
  | inFlight (txn : Txn)
deriving DecidableEq, Repr

/-- One strobe to the host (R109, R117): HRD of a read beat or of an ERROR end, whether a beat is transferred
(HSTB), HEND and HERR. -/
structure HostStrobe where
  hrd  : Option Word
  hstb : Bool
  hend : Bool
  herr : Bool
deriving DecidableEq, Repr

/-- The host bus interface (R112, R113). `nextRequest` is HREQ with its signals while a transaction is in flight
(R111); `strobes` are those of the current or latest transaction, in order (log 14). -/
structure Hbi where
  state       : HbiState
  held        : Bool
  nextRequest : Option HostRequest
  strobes     : List HostStrobe
deriving DecidableEq, Repr

/-! ### Memory port (chapter 8) -/

/-- What a requester hands the port (R125). -/
structure PortRequest where
  ce      : ChipEnable
  addr    : DownAddr
  write   : Bool
  data    : Word
  enables : BitVec 4
  wait    : BitVec 4
deriving DecidableEq, Repr

/-- The access in progress (R124); `givenUp` when its requester has abandoned it (R132); `steps` counts the steps
of the time base since its start (R127). -/
structure Access where
  who     : Requester
  givenUp : Bool
  req     : PortRequest
  timeout : BitVec 8
  start   : Word
  steps   : Nat
deriving DecidableEq, Repr

/-- The memory port (R124); it is FREE when there is no access. -/
structure MemPort where
  access   : Option Access
  host     : Option PortRequest
  loader   : Option PortRequest
  verifier : Option PortRequest
  timeout0 : BitVec 8
  timeout1 : BitVec 8
deriving DecidableEq, Repr

/-! ### Trace unit (chapter 9) -/

/-- The end report of a host transaction (R118). -/
structure EndReport where
  addr       : HostWordAddr
  write      : Bool
  fetch      : Bool
  len        : BitVec 2
  region     : Option (Fin 8)
  trace      : Bool
  slot       : Option Slot
  generation : Generation
  outcome    : TxnOutcome
  underPatch : Bool
  time       : Word
deriving DecidableEq, Repr

/-- The marker of a change of role (R138). -/
structure Marker where
  kind          : MarkerKind
  newGeneration : Generation
  oldGeneration : Generation
  letter        : Letter
deriving DecidableEq, Repr

/-- What a trace record holds beside its sequence number (R136, R138). -/
inductive TraceBody where
  | access (report : EndReport) (trigger : Bool)
  | marker (m : Marker) (time : Word)
deriving DecidableEq, Repr

/-- One trace record (R136, R138). -/
structure TraceRecord where
  seq  : BitVec 16
  body : TraceBody
deriving DecidableEq, Repr

/-- The trace configuration (R144). -/
structure TraceConfig where
  mode      : CaptureMode
  dirRead   : Bool
  dirWrite  : Bool
  kindFetch : Bool
  kindData  : Bool
  outcomes  : BitVec 10
  markers   : Bool
  window    : Option (LineNumber × LineNumber)
  source    : Option EventSource
  post      : Nat
deriving DecidableEq, Repr

/-- The trace unit (R135). -/
structure TraceUnit where
  state         : CaptureState
  records       : List TraceRecord
  seq           : BitVec 16
  overwritten   : Word
  postRemaining : Nat
  cause         : TriggerCause
  triggerSeq    : Option (BitVec 16)
  config        : TraceConfig
deriving DecidableEq, Repr

/-! ### Event unit (chapter 10) -/

/-- State of one event source (R150). -/
structure SourceState where
  enable  : Bool
  level   : Nat
  pending : Bool
  count   : BitVec 8
  detail  : Word
deriving DecidableEq, Repr

/-- The event unit (R150, R153); `inService` holds the levels taken and not finished, the latest first. -/
structure EventUnit where
  sources   : Vector SourceState 14
  inService : List Nat
deriving DecidableEq, Repr

/-! ### Service port (chapter 11) -/

/-- One accepted command (R161). -/
structure QueuedCommand where
  tag     : Byte
  code    : Byte
  payload : List Byte
deriving DecidableEq, Repr

/-- One response (R161). -/
structure Response where
  tag     : Byte
  result  : ResultCode
  payload : List Byte
deriving DecidableEq, Repr

/-- The two commands that end at a boundary (R169). -/
inductive BoundaryCommand where
  | revert | resetPart
deriving DecidableEq, Repr

/-- The executing command while it waits for its boundary (R161, R169). -/
structure Executing where
  tag  : Byte
  what : BoundaryCommand
deriving DecidableEq, Repr

/-- The status header formed at the fall of SSn (R166, R177). -/
structure StatusHeader where
  resetSeen : Bool
  alert     : Bool
  repeated  : Bool
  verdict   : Verdict
  tag       : Byte
  queued    : Nat
deriving DecidableEq, Repr

/-- The out stream of a select period (R166); `headerSent` once out byte 4 has been clocked out, `live` while its
response is still the oldest in the queue (R170). -/
structure OutStream where
  header     : StatusHeader
  response   : Option Response
  headerSent : Bool
  live       : Bool
deriving DecidableEq, Repr

/-- The service port (R161); `ssLow` is the level of SSn, `ignoring` the ignored period of R171, `decided` that
the period's verdict has been set (R163). -/
structure ServicePort where
  ssLow       : Bool
  ignoring    : Bool
  shifter     : List Byte
  decided     : Bool
  out         : Option OutStream
  commands    : List QueuedCommand
  executing   : Option Executing
  responses   : List Response
  lastVerdict : Verdict
  lastTag     : Byte
  resetSeen   : Bool
  partialMark : Bool
deriving DecidableEq, Repr

/-! ### The whole part -/

/-- The latched straps (R80). -/
structure Straps where
  mode   : StartMode
  imgSel : BitVec 2
deriving DecidableEq, Repr

/-- The state of the part. `orderChoices` and `pending` are the model's own (log 11, log 1). -/
structure State where
  inReset      : Bool
  straps       : Straps
  timeBase     : Word
  hbi          : Hbi
  regions      : RegionTable
  tables       : Tables
  roles        : Roles
  scu          : Scu
  store        : LineStore
  loader       : Loader
  port         : MemPort
  trace        : TraceUnit
  events       : EventUnit
  svp          : ServicePort
  orderChoices : Nat
  pending      : List Instr
deriving DecidableEq, Repr

/-- Reasons a step stops with a fault: none. The spec gives the part no condition in which it stops; every failure
is reported by a result code, a verdict, an ERROR response or an event. -/
inductive Fault where
deriving DecidableEq, Repr

/-- Reasons a step is refused. -/
inductive Refusal where
  /-- Raised only by an arm of `exec` for a command without a meaning; no arm uses it. Safe: the model stops. -/
  | notModelled (mnemonic : String)
deriving DecidableEq, Repr

/-- What a command answers. -/
abbrev Result := Host.Outcome State Fault Refusal

/-! ### Reset values -/

/-- A set record and slots with nothing in them (R1, R39). -/
def Table.empty : Table :=
  { slots := Vector.replicate 64 none, generation := 0, expectedCrc := 0, result := .none }

/-- Every field at the value 0 of its encoding (R97). -/
def RegionRecord.reset : RegionRecord :=
  { enabled := false, base := 0, sizeExp := 0, kind := .pass, ce := .ce0, offset := 0, wait := 0,
    policy := .forward, trace := false }

/-- Reset values of the region table (R97, R98). -/
def RegionTable.reset : RegionTable :=
  { records := Vector.replicate 8 RegionRecord.reset
    background := { kind := .pass, wait := 15, policy := .forward, trace := false } }

/-- A store line of zeros with agreeing checks (DESIGN CHOICE, log 4), unreferenced and unmarked (R38). -/
def StoreLine.reset : StoreLine :=
  { words := Vector.replicate 8 ⟨0, true⟩, refCount := 0, bad := false }

/-- The line store at `State.reset` (R38; words: log 4). -/
def LineStore.reset : LineStore :=
  { lines := Vector.replicate 256 StoreLine.reset, freeList := List.finRange 256, badList := [], threshold := 0 }

/-- The SCU after reset (R39, R57, R59). -/
def Scu.reset : Scu :=
  { state := .empty, verifier := none, commit := none, deferred := none, computedCrc := 0 }

/-- The loader with no load in hand (R81; its other fields DESIGN CHOICE, log 4). -/
def Loader.reset : Loader :=
  { state := .idle, kind := .command, ce := .ce0, cursor := 0, header := [], remaining := 0, sum := 0, record := [] }

/-- The memory port after pin reset (R124). -/
def MemPort.reset : MemPort :=
  { access := none, host := none, loader := none, verifier := none,
    timeout0 := Config.resetTimeout, timeout1 := Config.resetTimeout }

/-- The trace configuration after reset (R144). -/
def TraceConfig.reset : TraceConfig :=
  { mode := .wrap, dirRead := true, dirWrite := true, kindFetch := true, kindData := true, outcomes := 0x3FF,
    markers := true, window := none, source := none, post := 256 }

/-- The trace unit after reset (R135). -/
def TraceUnit.reset : TraceUnit :=
  { state := .off, records := [], seq := 0, overwritten := 0, postRemaining := 0, cause := .none,
    triggerSeq := none, config := TraceConfig.reset }

/-- A programmable source after reset (R150). -/
def SourceState.programmable : SourceState :=
  { enable := false, level := 1, pending := false, count := 0, detail := 0 }

/-- A fixed source after reset: enable on, level 4 (R150). -/
def SourceState.fixed : SourceState :=
  { enable := true, level := 4, pending := false, count := 0, detail := 0 }

/-- The event unit after reset: twelve programmable sources, two fixed ones, no level in service (R150, R153). -/
def EventUnit.reset : EventUnit :=
  { sources := ((Vector.replicate 14 SourceState.programmable).set 12 SourceState.fixed).set 13 SourceState.fixed
    inService := [] }

/-- The service port after pin reset, with SSn high (R161; SSn: log 3). -/
def ServicePort.reset : ServicePort :=
  { ssLow := false, ignoring := false, shifter := [], decided := false, out := none, commands := [],
    executing := none, responses := [], lastVerdict := .poll, lastTag := 0, resetSeen := true, partialMark := false }

/-- The machine right after the end of pin reset with BOOTMODE 0 (PASS), IMGSEL 0 and SSn high (R90; log 3). -/
def State.reset : State :=
  { inReset := false
    straps := { mode := .pass, imgSel := 0 }
    timeBase := 0
    hbi := { state := .idle, held := false, nextRequest := none, strobes := [] }
    regions := RegionTable.reset
    tables := { a := Table.empty, b := Table.empty, c := Table.empty }
    roles := { active := .a, staged := .b, retained := .c }
    scu := Scu.reset
    store := LineStore.reset
    loader := Loader.reset
    port := MemPort.reset
    trace := TraceUnit.reset
    events := EventUnit.reset
    svp := ServicePort.reset
    orderChoices := 0
    pending := [] }

end Sys2Proof.Machine
end

