-- ==== Sys2Proof/Machine/Formats.lean ====
section
/-! DEFINITION. Byte order, the two CRCs, the codes of named values and every layout of chapter 12. -/

namespace Sys2Proof.Machine

open Sys2Proof

/-! ### Little-endian fields (R175) -/

/-- The `n` bytes of `v`, least significant first (R175). -/
def leBytes : Nat → Nat → List Byte
  | 0, _ => []
  | n + 1, v => BitVec.ofNat 8 v :: leBytes n (v / 256)

/-- The number whose little-endian bytes are `bs` (R175). -/
def leNat : List Byte → Nat
  | [] => 0
  | b :: bs => b.toNat + 256 * leNat bs

/-- The field of `n` bytes at offset `off` of a structure (R175). -/
def field (p : List Byte) (off n : Nat) : Nat := leNat ((p.drop off).take n)

/-- The byte at offset `off` of a structure. -/
def byteAt (p : List Byte) (off : Nat) : Byte := p.getD off 0

/-- The four bytes of a word (R175). -/
def wordBytes (w : Word) : List Byte := leBytes 4 w.toNat

/-- The four bytes of a word read on MD, from the lowest byte address up. The spec orders the bytes by address (R52, R175)
and names the byte lanes (R109, R123), but does not say which lane of MD[31:0] holds the lowest byte address: the model
takes MD[7:0] (DESIGN CHOICE, log 28). -/
def mdBytes (md : Word) : List Byte := wordBytes md

/-- A flag in a byte of its own: 1 for on, 0 for off (R183). -/
def flagByte (b : Bool) : Byte := if b then 1 else 0

/-- A byte of eight flags, the first at bit 0 (R175). -/
def flagBits : List Bool → Byte
  | [] => 0
  | b :: bs => (flagBits bs <<< 1) ||| flagByte b

/-! ### Cyclic redundancy checks (R174) -/

/-- One bit of the CRC-16 (R174). -/
def crc16Bit (reg : BitVec 16) (bit : Bool) : BitVec 16 :=
  if reg.msb != bit then (reg <<< 1) ^^^ 0x1021#16 else reg <<< 1

/-- One byte of the CRC-16, most significant bit first (R174). -/
def crc16Byte (reg : BitVec 16) (b : Byte) : BitVec 16 :=
  [7, 6, 5, 4, 3, 2, 1, 0].foldl (fun r i => crc16Bit r (b.getLsbD i)) reg

/-- CRC-16 (R174). -/
def crc16 (bs : List Byte) : BitVec 16 := bs.foldl crc16Byte 0xFFFF#16

/-- One bit of the CRC-32 (R174). -/
def crc32Bit (reg : Word) (bit : Bool) : Word :=
  if reg.getLsbD 0 != bit then (reg >>> 1) ^^^ 0xEDB88320#32 else reg >>> 1

/-- One byte of the CRC-32, least significant bit first (R174). -/
def crc32Byte (reg : Word) (b : Byte) : Word :=
  [0, 1, 2, 3, 4, 5, 6, 7].foldl (fun r i => crc32Bit r (b.getLsbD i)) reg

/-- The CRC-32 register before any byte (R174). -/
def crc32Start : Word := 0xFFFFFFFF#32

/-- Feeds bytes to a CRC-32 register (R51). -/
def crc32Feed (reg : Word) (bs : List Byte) : Word := bs.foldl crc32Byte reg

/-- The final inversion (R174). -/
def crc32Final (reg : Word) : Word := ~~~reg

/-- CRC-32 (R174). -/
def crc32 (bs : List Byte) : Word := crc32Final (crc32Feed crc32Start bs)

/-! ### Codes (R175) -/

def Role.code : Role → Byte
  | .active => 0 | .staged => 1 | .retained => 2

def Role.ofCode (b : Byte) : Option Role :=
  if b = 0 then some .active else if b = 1 then some .staged else if b = 2 then some .retained else none

def Letter.code : Letter → Byte
  | .a => 0 | .b => 1 | .c => 2

def ChipEnable.code : ChipEnable → Byte
  | .ce0 => 0 | .ce1 => 1

def ChipEnable.ofCode (b : Byte) : Option ChipEnable :=
  if b = 0 then some .ce0 else if b = 1 then some .ce1 else none

def EntryKind.code : EntryKind → Byte
  | .substitute => 1 | .redirect => 2 | .watch => 3

def EntryKind.ofCode (b : Byte) : Option EntryKind :=
  if b = 1 then some .substitute else if b = 2 then some .redirect else if b = 3 then some .watch else none

def WatchDir.code : WatchDir → Byte
  | .reads => 1 | .writes => 2 | .both => 3

def WatchDir.ofCode (b : Byte) : Option WatchDir :=
  if b = 1 then some .reads else if b = 2 then some .writes else if b = 3 then some .both else none

def RegionKind.code : RegionKind → Byte
  | .pass => 0 | .patchable => 1 | .blocked => 2

def RegionKind.ofCode (b : Byte) : Option RegionKind :=
  if b = 0 then some .pass else if b = 1 then some .patchable else if b = 2 then some .blocked else none

/-- The region kind a background kind stands for (R98). -/
def BackgroundKind.toRegion : BackgroundKind → RegionKind
  | .pass => .pass | .blocked => .blocked

/-- The background kinds among the region kinds: PATCHABLE is none of them (R106). -/
def BackgroundKind.ofCode (b : Byte) : Option BackgroundKind :=
  if b = 0 then some .pass else if b = 2 then some .blocked else none

def WritePolicy.code : WritePolicy → Byte
  | .forward => 0 | .discard => 1 | .refuse => 2

def WritePolicy.ofCode (b : Byte) : Option WritePolicy :=
  if b = 0 then some .forward else if b = 1 then some .discard else if b = 2 then some .refuse else none

def CommitMode.code : CommitMode → Byte
  | .atBoundary => 0 | .gated => 1

def CommitMode.ofCode (b : Byte) : Option CommitMode :=
  if b = 0 then some .atBoundary else if b = 1 then some .gated else none

def VerifyResult.code : VerifyResult → Byte
  | .none => 0 | .ok => 1 | .crcMismatch => 2 | .badLine => 3 | .originMismatch => 4 | .originUnreadable => 5

def Verdict.code : Verdict → Byte
  | .accepted => 0 | .refusedFull => 1 | .refusedCrc => 2 | .refusedFormat => 3 | .poll => 4

def TxnOutcome.code : TxnOutcome → Nat
  | .pass => 0 | .substituted => 1 | .merged => 2 | .redirected => 3 | .watched => 4 | .fallback => 5
  | .blocked => 6 | .refused => 7 | .discarded => 8 | .failed => 9

def ParseReason.code : ParseReason → Byte
  | .badMagic => 1 | .badVersion => 2 | .badHeaderCrc => 3 | .badCount => 4 | .badHeaderField => 5
  | .badRecord => 6 | .duplicate => 7 | .noLine => 8 | .lengthMismatch => 9 | .readTimeout => 10

def StagedState.code : StagedState → Byte
  | .empty => 0 | .opened => 1 | .loading => 2 | .sealed => 3 | .verifying => 4 | .verified => 5
  | .failed => 6 | .commitPending => 7

def VerifyStarter.code : VerifyStarter → Byte
  | .verifySet => 1 | .commandLoad => 2 | .startUpLoad => 3

def StartMode.code : StartMode → Byte
  | .pass => 0 | .loadHold => 1 | .loadPass => 2 | .hold => 3

/-- The start-up mode of a BOOTMODE value (R80). -/
def StartMode.ofStrap (b : BitVec 2) : StartMode :=
  if b = 0 then .pass else if b = 1 then .loadHold else if b = 2 then .loadPass else .hold

def StartPhase.code : StartPhase → Byte
  | .held => 0 | .loading => 1 | .running => 2

def CaptureState.code : CaptureState → Byte
  | .off => 0 | .capturing => 1 | .armed => 2 | .post => 3 | .stopped => 4

def CaptureMode.code : CaptureMode → Byte
  | .wrap => 0 | .stop => 1 | .triggered => 2

def CaptureMode.ofCode (b : Byte) : Option CaptureMode :=
  if b = 0 then some .wrap else if b = 1 then some .stop else if b = 2 then some .triggered else none

def TriggerCause.code : TriggerCause → Byte
  | .none => 0 | .address => 1 | .event => 2

def ResultCode.code : ResultCode → Byte
  | .ok => 0x00 | .busyState => 0x01 | .noLine => 0x02 | .tableFull => 0x03 | .duplicate => 0x04
  | .notFound => 0x05 | .badArgument => 0x06 | .generationLow => 0x07 | .notVerified => 0x08 | .badLine => 0x09
  | .notPending => 0x0A | .notHeld => 0x0B | .noEvent => 0x0C | .notInService => 0x0D | .scrubFailed => 0x0E
  | .unknownCommand => 0x0F

/-- Place of a source in the array of sources: its number less one (R150). -/
def EventSource.index : EventSource → Fin 14
  | .loadResult => 0 | .verifyDone => 1 | .commitResult => 2 | .firstHit => 3 | .watchReached => 4
  | .writeUnderPatch => 5 | .accessRefused => 6 | .downstreamTimeout => 7 | .freeLow => 8 | .traceStopped => 9
  | .frameError => 10 | .software => 11 | .lineFault => 12 | .startFailed => 13

/-- The source at a place of the array (R150). -/
def EventSource.ofIndex (i : Fin 14) : EventSource :=
  [EventSource.loadResult, .verifyDone, .commitResult, .firstHit, .watchReached, .writeUnderPatch, .accessRefused,
   .downstreamTimeout, .freeLow, .traceStopped, .frameError, .software, .lineFault, .startFailed].getD i.val .loadResult

/-- Number of a source, 1 to 14 (R150). -/
def EventSource.number (src : EventSource) : Nat := src.index.val + 1

/-- The source of a number 1 to 14 (R150). -/
def EventSource.ofNumber (n : Nat) : Option EventSource :=
  if h : 1 ≤ n ∧ n ≤ 14 then some (EventSource.ofIndex ⟨n - 1, by omega⟩) else none

/-- The enable and level bits of a mask with one bit per source, bit n for source n (R183). -/
def sourceMask (f : Fin 14 → Bool) : Nat :=
  (List.finRange 14).foldl (fun m i => if f i then m + 2 ^ (i.val + 1) else m) 0

/-! ### Masks of a line -/

/-- The word indices 0 to 7, ascending. -/
def wordIdxs : List WordIdx := [0, 1, 2, 3, 4, 5, 6, 7]

/-- The word indices whose mask bit is set, ascending (R2). -/
def maskedIdxs (mask : BitVec 8) : List WordIdx := wordIdxs.filter fun i => mask.getLsbD i.val

/-- The eight words that fill a line: the next data word where the mask bit is set, zero elsewhere (R22). -/
def patchWord (mask : BitVec 8) (data : List Word) (i : WordIdx) : Word :=
  if mask.getLsbD i.val then data.getD ((maskedIdxs mask).idxOf i) 0 else 0

/-! ### The entry record (R178) -/

/-- The record length that kind, mask and flags give (R79, R178). -/
def FixedPart.recordLength (f : FixedPart) : Nat :=
  8 + (if f.hasOrigin then 4 else 0) +
    match f.kind with
    | .substitute => 4 * (maskedIdxs f.mask).length
    | _ => 4

/-- The fixed part of a record as far as its own bytes decide it; `none` when it is malformed (R44, R84 step 1). -/
def parseFixed (p : List Byte) : Option FixedPart :=
  match EntryKind.ofCode (byteAt p 3) with
  | none => none
  | some kind =>
    let f : FixedPart :=
      { line := BitVec.ofNat 23 (field p 0 3), kind := kind, mask := byteAt p 4,
        hasOrigin := (byteAt p 5).getLsbD 0, report := (byteAt p 5).getLsbD 1 }
    if p.length < 8 then none
    else if 0x7FFFFF < field p 0 3 then none
    else if (kind == .substitute) == (byteAt p 4 == 0) then none
    else if 3 < (byteAt p 5).toNat then none
    else if byteAt p 7 ≠ 0 then none
    else if (byteAt p 6).toNat ≠ f.recordLength then none
    else some f

/-- The kind-specific part at offset `off` of a record (R178); `none` when it is malformed (R44, R84 step 2). -/
def parseBody (f : FixedPart) (p : List Byte) (off : Nat) : Option RecordBody :=
  match f.kind with
  | .substitute =>
    some (.substitute f.mask
      ((List.range (maskedIdxs f.mask).length).map fun j => BitVec.ofNat 32 (field p (off + 4 * j) 4)))
  | .redirect =>
    match ChipEnable.ofCode (byteAt p (off + 3)) with
    | none => none
    | some ce => if 0x1FFFFF < field p off 3 then none else some (.redirect ce (BitVec.ofNat 21 (field p off 3)))
  | .watch =>
    match WatchDir.ofCode (byteAt p (off + 2)) with
    | none => none
    | some dir =>
      if byteAt p (off + 3) ≠ 0 then none else some (.watch (BitVec.ofNat 16 (field p off 2)) dir)

/-- A whole entry record (R178); `none` when it is malformed (R44, R84). -/
def parseRecord (p : List Byte) : Option EntryRecord :=
  match parseFixed p with
  | none => none
  | some f =>
    if p.length ≠ f.recordLength then none
    else if f.hasOrigin && field p 10 2 != 0 then none
    else
      match parseBody f p (if f.hasOrigin then 12 else 8) with
      | none => none
      | some body =>
        some { line := f.line, body := body, report := f.report,
               origin := if f.hasOrigin then some (BitVec.ofNat 16 (field p 8 2)) else none }

/-- The fixed part of a record (R178). -/
def EntryRecord.fixed (r : EntryRecord) : FixedPart :=
  { line := r.line, hasOrigin := r.origin.isSome, report := r.report
    kind := match r.body with
      | .substitute _ _ => .substitute
      | .redirect _ _ => .redirect
      | .watch _ _ => .watch
    mask := match r.body with
      | .substitute mask _ => mask
      | _ => 0 }

/-- The bytes of a fixed part (R178). -/
def FixedPart.bytes (f : FixedPart) : List Byte :=
  leBytes 3 f.line.toNat ++
    [f.kind.code, f.mask, flagBits [f.hasOrigin, f.report], BitVec.ofNat 8 f.recordLength, 0]

/-- The bytes of a kind-specific part (R178). -/
def RecordBody.bytes : RecordBody → List Byte
  | .substitute _ data => data.flatMap wordBytes
  | .redirect ce target => leBytes 3 target.toNat ++ [ce.code]
  | .watch threshold dir => leBytes 2 threshold.toNat ++ [dir.code, 0]

/-- The bytes of an entry record: images, ADD_ENTRY, MODIFY_ENTRY, the readout and the set CRC share them (R178). -/
def EntryRecord.bytes (r : EntryRecord) : List Byte :=
  r.fixed.bytes ++
    (match r.origin with
     | none => []
     | some o => leBytes 2 o.toNat ++ [0, 0]) ++
    r.body.bytes

/-- A record that a line of the device could carry: a SUBSTITUTE has a nonzero mask and one data word for each set
mask bit (R2, R3). -/
def EntryRecord.wellFormed (r : EntryRecord) : Bool :=
  match r.body with
  | .substitute mask data => mask != 0 && data.length == (maskedIdxs mask).length
  | _ => true

/-- The record form of an entry, given the words of its line (R50, R179). -/
def Entry.toRecord (e : Entry) (words : List Word) : EntryRecord :=
  { line := e.line, origin := e.origin, report := e.reportFirstHit
    body := match e.body with
      | .substitute mask _ => .substitute mask words
      | .redirect ce target => .redirect ce target
      | .watch threshold dir => .watch threshold dir }

/-! ### The image header (R182) -/

/-- Entry count of a header (R182). -/
def headerCount (h : List Byte) : Nat := (byteAt h 6).toNat

/-- Generation of a header (R182). -/
def headerGeneration (h : List Byte) : Generation := BitVec.ofNat 16 (field h 8 2)

/-- Gate present flag of a header (R182). -/
def headerGatePresent (h : List Byte) : Bool := (byteAt h 5).getLsbD 0

/-- Set CRC of a header (R182). -/
def headerSetCrc (h : List Byte) : Word := BitVec.ofNat 32 (field h 20 4)

/-- Body length of a header (R182). -/
def headerBodyLength (h : List Byte) : Nat := field h 24 2

/-- The gate of a header as a commit in mode GATED (R91). -/
def headerGate (h : List Byte) : CommitArgs :=
  { mode := .gated, gateBase := BitVec.ofNat 23 (field h 12 3), gateLength := field h 10 2,
    timeout := BitVec.ofNat 16 (field h 16 2) }

/-- The field test of a header: generation, reserved fields and the gate fields (R83). -/
def headerFieldsOk (h : List Byte) : Bool :=
  field h 8 2 != 0 &&
  (byteAt h 5).toNat ≤ 1 && byteAt h 7 == 0 && byteAt h 15 == 0 && field h 18 2 == 0 && field h 26 4 == 0 &&
  (if headerGatePresent h then
    1 ≤ field h 10 2 && field h 10 2 ≤ 2048 && field h 12 3 ≤ 0x7FFFFF &&
      field h 12 3 + field h 10 2 ≤ Config.hostLines
   else field h 10 2 == 0 && field h 12 3 == 0 && field h 16 2 == 0)

/-- The first header test that fails, in the order of R83, or none. -/
def headerTest (h : List Byte) : Option ParseReason :=
  if field h 0 4 ≠ Config.imageMagic then some .badMagic
  else if byteAt h 4 ≠ 1 then some .badVersion
  else if field h 30 2 ≠ (crc16 (h.take 30)).toNat then some .badHeaderCrc
  else if 64 < headerCount h then some .badCount
  else if !headerFieldsOk h then some .badHeaderField
  else none

/-! ### Event details (R180) -/

/-- Four detail bytes, byte 0 first (R180). -/
def detailBytes (b0 b1 : Byte) (high : BitVec 16) : Word := high ++ (b1 ++ b0)

/-- Load end report: stage, reason, generation (R87, R180). -/
def loadReport (stage reason : Byte) (gen : Generation) : Word := detailBytes stage reason gen

/-- Detail of DOWNSTREAM_TIMEOUT: address in bits 0 to 25, chip enable in bit 31 (R180). -/
def timeoutDetail (ce : ChipEnable) (addr : DownAddr) : Word := (ce.code.getLsbD 0).toNat * 0x80000000#32 + addr.setWidth 32

/-! ### Service port frames (R177) -/

/-- A response frame (R177). -/
def Response.bytes (r : Response) : List Byte :=
  let body := [r.tag, r.result.code, BitVec.ofNat 8 r.payload.length] ++ r.payload
  0x5A :: body ++ leBytes 2 (crc16 body).toNat

/-- A status header (R177). -/
def StatusHeader.bytes (h : StatusHeader) : List Byte :=
  [flagBits [h.resetSeen, h.alert, h.repeated], h.verdict.code, h.tag, BitVec.ofNat 8 h.queued]

/-- The bytes a select period clocks out before fill (R166). -/
def OutStream.bytes (o : OutStream) : List Byte :=
  o.header.bytes ++
    match o.response with
    | none => []
    | some r => r.bytes

/-- Out byte `k` of a select period, counted from 1; fill is 0xFF, and so is every byte without an out stream (R166,
R171). -/
def outByte (o : Option OutStream) (k : Nat) : Byte :=
  match o with
  | none => 0xFF
  | some o => o.bytes.getD (k - 1) 0xFF

/-! ### Readouts of regions and trace records (R181, R179) -/

/-- The sixteen bytes of a region record (R181). -/
def RegionRecord.bytes (n : Nat) (r : RegionRecord) : List Byte :=
  [BitVec.ofNat 8 n, flagBits [r.enabled, r.trace], r.sizeExp.setWidth 8, r.kind.code, r.ce.code,
   r.wait.setWidth 8, r.policy.code, 0] ++ leBytes 4 r.base.toNat ++ leBytes 4 r.offset.toNat

/-- The sixteen bytes of the background rule as record 8 (R181). -/
def Background.bytes (g : Background) : List Byte :=
  [8, flagBits [false, g.trace], 0, g.kind.toRegion.code, 0, g.wait.setWidth 8, g.policy.code, 0] ++
    leBytes 4 0 ++ leBytes 4 0

/-- Region byte of a record number or BACKGROUND (R179, R183). -/
def regionByte : Option (Fin 8) → Byte
  | none => 8
  | some r => BitVec.ofNat 8 r.val

/-- Host byte address of a host word address (R109). -/
def hostByte (a : HostWordAddr) : Nat := 4 * a.toNat

/-- A host byte address as a 32-bit detail or field (R180). -/
def hostByteWord (a : HostWordAddr) : Word := BitVec.ofNat 32 (hostByte a)

/-- Readout of an access record (R179). -/
def accessBytes (seq : BitVec 16) (r : EndReport) (trigger : Bool) : List Byte :=
  leBytes 2 seq.toNat ++
  [BitVec.ofNat 8 r.outcome.code,
   flagBits [r.write, r.fetch, r.underPatch, trigger, r.len.getLsbD 0, r.len.getLsbD 1],
   regionByte r.region,
   match r.slot with
   | none => 0xFF
   | some s => BitVec.ofNat 8 s.val] ++
  leBytes 2 r.generation.toNat ++ wordBytes (hostByteWord r.addr) ++ wordBytes r.time

/-- Readout of a marker record (R179). -/
def markerBytes (seq : BitVec 16) (m : Marker) (time : Word) : List Byte :=
  leBytes 2 seq.toNat ++
  [match m.kind with
   | .commit => 0x10
   | .revert => 0x20,
   m.letter.code] ++
  leBytes 2 m.newGeneration.toNat ++ leBytes 2 m.oldGeneration.toNat ++ leBytes 4 0 ++ wordBytes time

/-- The sixteen bytes of a trace record (R179). -/
def TraceRecord.bytes (r : TraceRecord) : List Byte :=
  match r.body with
  | .access report trigger => accessBytes r.seq report trigger
  | .marker m time => markerBytes r.seq m time

end Sys2Proof.Machine
end

