-- ==== Sys2Proof/Machine/Flags.lean ====
section
/-! DEFINITION. The conditions and flags the rules compute from the state: eligibility and ALERTn, boundaries and
due effects, the start-up phase, entry counts. -/

namespace Sys2Proof.Machine

open Sys2Proof

/-! ### Event unit (R153, R154) -/

/-- The highest in-service level, 0 when none is in service (R153). -/
def EventUnit.highest (e : EventUnit) : Nat := e.inService.foldr max 0

/-- A source is eligible: enabled, pending, and its level above the highest in-service level (R153). -/
def EventUnit.eligible (e : EventUnit) (i : Fin 14) : Bool :=
  e.sources[i].enable && e.sources[i].pending && decide (e.highest < e.sources[i].level)

/-- The number of sources pending, enabled or not (R155). -/
def EventUnit.pendingCount (e : EventUnit) : Nat := (List.finRange 14).countP fun i => e.sources[i].pending

/-- The eligible source that TAKE_EVENT chooses: of highest level, and of those the lowest number (R155). -/
def EventUnit.choose (e : EventUnit) : Option (Fin 14) :=
  (List.finRange 14).foldl
    (fun best i =>
      if e.eligible i then
        match best with
        | none => some i
        | some j => if e.sources[j].level < e.sources[i].level then some i else some j
      else best)
    none

/-- ALERTn is low: some source is eligible, and RESETn is not low (R154, R160). -/
def State.alertLow (s : State) : Bool := !s.inReset && (List.finRange 14).any s.events.eligible

/-! ### Boundaries and effects (R119) -/

/-- A host transaction is in flight (R112). -/
def State.inFlight (s : State) : Bool :=
  match s.hbi.state with
  | .inFlight _ => true
  | _ => false

/-- A pending commit takes effect at the first boundary: in mode AT_BOUNDARY, or once its gate is open (R62, R64). -/
def State.commitDue (s : State) : Bool :=
  match s.scu.commit with
  | none => false
  | some pc => pc.gateOpen || pc.args.mode == .atBoundary

/-- A boundary effect is due: a commit, a waiting REVERT or a service reset (R119). -/
def State.effectDue (s : State) : Bool := s.commitDue || s.svp.executing.isSome

/-! ### Start-up (R90) -/

/-- A start-up load is in hand, from HEADER to COMMIT (R90). -/
def State.startUpInHand (s : State) : Bool := s.loader.state != .idle && s.loader.kind == .startUp

/-- The start-up phase (R90). -/
def State.startPhase (s : State) : StartPhase :=
  if s.hbi.held then .held else if s.startUpInHand then .loading else .running

/-! ### Timers (R65, R127) -/

/-- The steps of the time base that a gate timeout of `ms` milliseconds lasts (R59). -/
def gateSteps (ms : BitVec 16) : Nat := ms.toNat * 1000

/-- The gate timer of the pending commit expires now: the time base stands at its deadline, which is exactly the gate
timeout's steps after acceptance, wrap or no wrap (R59, R65; how long this moment lasts: log 9). -/
def State.gateTimerExpired (s : State) : Bool :=
  match s.scu.commit with
  | none => false
  | some pc => pc.deadline == some s.timeBase

/-- An access expires now: it has a ready timeout, and the count of steps has come to it (R127; log 9). -/
def Access.expired (a : Access) : Bool := a.timeout != 0 && a.steps == a.timeout.toNat

/-! ### Entries -/

/-- The entry names a store line (R3). -/
def Entry.storeLine (e : Entry) : Option LineIdx :=
  match e.body with
  | .substitute _ l => some l
  | _ => none

/-- A write that matched the entry is a write under patch (R14). -/
def Entry.patches (e : Entry) : Bool :=
  match e.body with
  | .watch _ _ => false
  | _ => true

/-- The hit of a transaction on the entry is counted (R15). -/
def Entry.counts (e : Entry) (write : Bool) : Bool :=
  match e.body with
  | .watch _ .reads => !write
  | .watch _ .writes => write
  | _ => true

/-! ### Store words (R23) -/

/-- The word-check field: one bit per word index that failed its test (R21, R36). -/
def wordCheck (l : StoreLine) (idxs : List WordIdx) : Byte :=
  flagBits (wordIdxs.map fun i => idxs.contains i && !l.words[i].agrees)

/-- Some word of those indices fails its test (R23). -/
def StoreLine.anyFails (l : StoreLine) (idxs : List WordIdx) : Bool := idxs.any fun i => !l.words[i].agrees

end Sys2Proof.Machine
end

