-- ==== Sys2Proof/Machine/Operands.lean ====
section
/-! DEFINITION. The argument forms of the service commands (R183) and the reading of the bytes of a select period
(R163, R164). A reader answers `none` where the owning rule answers BAD_ARGUMENT. -/

namespace Sys2Proof.Machine

open Sys2Proof

/-! ### The command list (section 11.7) -/

/-- Command codes listed in section 11.7. -/
def listedCode (code : Byte) : Bool :=
  [0x01#8, 0x02#8, 0x03#8, 0x11#8, 0x14#8, 0x15#8, 0x16#8, 0x20#8, 0x21#8, 0x22#8, 0x23#8, 0x24#8, 0x25#8, 0x26#8,
   0x27#8, 0x28#8, 0x29#8, 0x30#8, 0x31#8, 0x32#8, 0x33#8, 0x40#8, 0x41#8, 0x50#8, 0x51#8, 0x52#8, 0x58#8, 0x60#8,
   0x61#8, 0x62#8, 0x63#8, 0x64#8, 0x65#8, 0x70#8, 0x71#8, 0x72#8, 0x73#8, 0x74#8].contains code

/-- The payload length fits a form of the command (R168, R183); ECHO and the entry records take any length. -/
def payloadFits (code : Byte) (n : Nat) : Bool :=
  if code = 0x01 ∨ code = 0x22 ∨ code = 0x23 then true
  else if code = 0x11 then n == 2
  else if code = 0x14 then n == 0 || n == 2
  else if code = 0x15 ∨ code = 0x16 then n == 2
  else if code = 0x24 then n == 3
  else if code = 0x25 then n == 6
  else if code = 0x30 then n == 8
  else if code = 0x40 then n == 5
  else if code = 0x50 then n == 16
  else if code = 0x51 then n == 1 || n == 4
  else if code = 0x52 then n == 4
  else if code = 0x58 then n == 1 || n == 3
  else if code = 0x60 then n == 18
  else if code = 0x63 then n == 1
  else if code = 0x70 then n == 3
  else if code = 0x73 then n == 0 || n == 1
  else if code = 0x74 then n == 4
  else n == 0

/-! ### Single arguments -/

/-- A byte that holds on or off (R183). -/
def flagArg (b : Byte) : Option Bool := if b = 0 then some false else if b = 1 then some true else none

/-- A slot number (R20). -/
def slotArg (b : Byte) : Option Slot := if h : b.toNat < 64 then some ⟨b.toNat, h⟩ else none

/-- A line index in two bytes, 0 to 255 (R36, R37). -/
def lineIndexArg (p : List Byte) : Option LineIdx :=
  if h : field p 0 2 < 256 then some ⟨field p 0 2, h⟩ else none

/-- A threshold in two bytes, 0 to 255 (R35). -/
def thresholdArg (p : List Byte) : Option (BitVec 8) :=
  if field p 0 2 < 256 then some (BitVec.ofNat 8 (field p 0 2)) else none

/-- A line number in three bytes, 0 to 0x7F_FFFF (R47). -/
def lineNumberArg (p : List Byte) : Option LineNumber :=
  if field p 0 3 < Config.hostLines then some (BitVec.ofNat 23 (field p 0 3)) else none

/-! ### Argument lists -/

/-- READ_ENTRY: role and slot (R20). -/
def readEntryArgs (p : List Byte) : Option (Role × Slot) :=
  match Role.ofCode (byteAt p 0), slotArg (byteAt p 1) with
  | some r, some i => some (r, i)
  | _, _ => none

/-- COMMIT: mode and, in mode GATED, the gate tested; in AT_BOUNDARY the gate is recorded as 0 (R60). -/
def commitArgs (p : List Byte) : Option CommitArgs :=
  match CommitMode.ofCode (byteAt p 0) with
  | none => none
  | some .atBoundary => some { mode := .atBoundary, gateBase := 0, gateLength := 0, timeout := 0 }
  | some .gated =>
    if field p 4 2 = 0 ∨ 2048 < field p 4 2 ∨ 0x7FFFFF < field p 1 3 ∨
        Config.hostLines < field p 1 3 + field p 4 2 then none
    else some { mode := .gated, gateBase := BitVec.ofNat 23 (field p 1 3), gateLength := field p 4 2,
                timeout := BitVec.ofNat 16 (field p 6 2) }

/-- LOAD_IMAGE: chip enable and a line-aligned offset that leaves room for the longest image (R82). -/
def loadImageArgs (p : List Byte) : Option (ChipEnable × DownAddr) :=
  match ChipEnable.ofCode (byteAt p 0) with
  | none => none
  | some ce =>
    if field p 1 4 % 32 ≠ 0 ∨ Config.maxImageOffset < field p 1 4 then none
    else some (ce, BitVec.ofNat 26 (field p 1 4))

/-- SET_REGION: record number and the eight fields (R105, R181). -/
def setRegionArgs (p : List Byte) : Option (Fin 8 × RegionRecord) :=
  match RegionKind.ofCode (byteAt p 3), ChipEnable.ofCode (byteAt p 4), WritePolicy.ofCode (byteAt p 6) with
  | some kind, some ce, some policy =>
    let size := 4096 * 2 ^ (byteAt p 2).toNat
    if h : (byteAt p 0).toNat < 8 then
      if 3 < (byteAt p 1).toNat ∨ 15 < (byteAt p 2).toNat ∨ 15 < (byteAt p 5).toNat ∨ byteAt p 7 ≠ 0 then none
      else if 0xFFFFFFF < field p 8 4 ∨ field p 8 4 % size ≠ 0 then none
      else if field p 12 4 % 4096 ≠ 0 ∨ Config.downstreamSize ≤ field p 12 4 then none
      else if kind ≠ .blocked ∧ Config.downstreamSize < field p 12 4 + size then none
      else
        some (⟨(byteAt p 0).toNat, h⟩,
          { enabled := (byteAt p 1).getLsbD 0, trace := (byteAt p 1).getLsbD 1,
            sizeExp := (byteAt p 2).setWidth 4, kind := kind, ce := ce, wait := (byteAt p 5).setWidth 4,
            policy := policy, base := BitVec.ofNat 28 (field p 8 4), offset := BitVec.ofNat 26 (field p 12 4) })
    else none
  | _, _, _ => none

/-- SET_BACKGROUND: kind, wait states, write policy, trace (R106, R181). -/
def backgroundArgs (p : List Byte) : Option Background :=
  match BackgroundKind.ofCode (byteAt p 0), WritePolicy.ofCode (byteAt p 2), flagArg (byteAt p 3) with
  | some kind, some policy, some trace =>
    if 15 < (byteAt p 1).toNat then none
    else some { kind := kind, wait := (byteAt p 1).setWidth 4, policy := policy, trace := trace }
  | _, _, _ => none

/-- TRACE_CONFIGURE: trigger source, none or 1 to 14 except 10 (R144). -/
def triggerSourceArg (b : Byte) : Option (Option EventSource) :=
  if b = 0 then some none
  else
    match EventSource.ofNumber b.toNat with
    | none => none
    | some .traceStopped => none
    | some src => some (some src)

/-- TRACE_CONFIGURE: the trigger window, whose bytes are reserved when it is off (R144, R183). -/
def triggerWindowArg (p : List Byte) : Option (Option (LineNumber × LineNumber)) :=
  if (byteAt p 5).getLsbD 1 then
    if field p 10 3 ≤ field p 14 3 ∧ field p 14 3 ≤ 0x7FFFFF then
      some (some (BitVec.ofNat 23 (field p 10 3), BitVec.ofNat 23 (field p 14 3)))
    else none
  else if field p 10 3 = 0 ∧ field p 14 3 = 0 then some none
  else none

/-- TRACE_CONFIGURE: the whole configuration (R144, R183). -/
def traceConfigArgs (p : List Byte) : Option TraceConfig :=
  match CaptureMode.ofCode (byteAt p 0), triggerSourceArg (byteAt p 6), triggerWindowArg p with
  | some mode, some source, some window =>
    if 3 < (byteAt p 1).toNat ∨ 3 < (byteAt p 2).toNat ∨ 0x3FF < field p 3 2 ∨ 3 < (byteAt p 5).toNat then none
    else if byteAt p 7 ≠ 0 ∨ byteAt p 13 ≠ 0 ∨ byteAt p 17 ≠ 0 then none
    else if field p 8 2 = 0 ∨ 512 < field p 8 2 then none
    else if mode = .triggered ∧ window = none ∧ source = none then none
    else
      some { mode := mode, dirRead := (byteAt p 1).getLsbD 0, dirWrite := (byteAt p 1).getLsbD 1,
             kindFetch := (byteAt p 2).getLsbD 0, kindData := (byteAt p 2).getLsbD 1,
             outcomes := BitVec.ofNat 10 (field p 3 2), markers := (byteAt p 5).getLsbD 0,
             window := window, source := source, post := field p 8 2 }
  | _, _, _ => none

/-- EVENT_CONFIG: a programmable source, an enable and a level of 1 to 3 (R157). -/
def eventConfigArgs (p : List Byte) : Option (Fin 14 × Bool × Nat) :=
  match flagArg (byteAt p 1) with
  | none => none
  | some enable =>
    if h : 1 ≤ (byteAt p 0).toNat ∧ (byteAt p 0).toNat ≤ 12 then
      if 1 ≤ (byteAt p 2).toNat ∧ (byteAt p 2).toNat ≤ 3 then
        some (⟨(byteAt p 0).toNat - 1, by omega⟩, enable, (byteAt p 2).toNat)
      else none
    else none

/-! ### Select periods (R163, R164) -/

/-- What the whole bytes of a select period amount to so far (R163, R164). -/
inductive PeriodBytes where
  /-- No byte yet. -/
  | nothing
  /-- First byte 0x00: a poll. -/
  | poll
  /-- REFUSED_FORMAT at in byte 1 or 4, with the tag of the verdict. -/
  | malformed (tag : Byte)
  /-- A request frame that is not yet complete, with the tag clocked in or 0. -/
  | incomplete (tag : Byte)
  /-- A complete request frame; `crcOk` when its CRC-16 agrees. -/
  | whole (cmd : QueuedCommand) (crcOk : Bool)
deriving DecidableEq, Repr

/-- Reads the receive shifter (R163, R164, R177). -/
def readPeriod (bs : List Byte) : PeriodBytes :=
  match bs with
  | [] => .nothing
  | b :: _ =>
    if b = 0x00 then .poll
    else if b ≠ 0xA5 then .malformed 0
    else
      let tag := byteAt bs 1
      let n := (byteAt bs 3).toNat
      if bs.length < 4 then .incomplete tag
      else if Config.maxRequestPayload < n then .malformed tag
      else if bs.length < 6 + n then .incomplete tag
      else
        .whole { tag := tag, code := byteAt bs 2, payload := (bs.drop 4).take n }
          (field bs (4 + n) 2 == (crc16 ((bs.drop 1).take (3 + n))).toNat)

/-- The request frame of a command (R177). -/
def QueuedCommand.frame (c : QueuedCommand) : List Byte :=
  let body := [c.tag, c.code, BitVec.ofNat 8 c.payload.length] ++ c.payload
  0xA5 :: body ++ leBytes 2 (crc16 body).toNat

end Sys2Proof.Machine
end

