-- ==== Sys2Proof/Machine/Ops.lean ====
section
/-! DEFINITION. The shared operations of the blocks: raising events and making trace records, the line store's
accounting, tables and roles, region classification, the memory port and its arbiter, and the executor's frame. -/

namespace Sys2Proof.Machine

open Sys2Proof

/-! ### Events (R152) -/

/-- Puts a new state of one source into the event unit. -/
def EventUnit.setSource (e : EventUnit) (i : Fin 14) (x : SourceState) : EventUnit :=
  { e with sources := e.sources.set i.val x i.isLt }

/-- A count that stops at 255 (R152). -/
def satCount (c : BitVec 8) : BitVec 8 := if c = 255 then c else c + 1

/-- A source after a raise: pending, counted, with the new detail (R152). -/
def SourceState.raised (x : SourceState) (detail : Word) : SourceState :=
  { x with pending := true, count := satCount x.count, detail := detail }

/-- Steps 1 to 3 of a raise (R152). -/
def EventUnit.raise (e : EventUnit) (src : EventSource) (detail : Word) : EventUnit :=
  e.setSource src.index (e.sources[src.index].raised detail)

/-- The sequence number of the newest record held, or none (R142). -/
def TraceUnit.newest (t : TraceUnit) : Option (BitVec 16) := t.records.getLast?.map (·.seq)

/-- The notice of a raise: in ARMED, for the configured trigger source, it fires the trigger without a record (R142). -/
def TraceUnit.notice (t : TraceUnit) (src : EventSource) : TraceUnit :=
  if t.state = .armed ∧ t.config.source = some src then
    { t with state := .post, cause := .event, triggerSeq := t.newest, postRemaining := t.config.post }
  else t

/-- A raise of a source, with its notice to the TRU (R152). -/
def State.raise (s : State) (src : EventSource) (detail : Word) : State :=
  { s with events := s.events.raise src detail, trace := s.trace.notice src }

/-- Several raises in order. -/
def State.raiseAll (s : State) (rs : List (EventSource × Word)) : State :=
  rs.foldl (fun s r => s.raise r.1 r.2) s

/-! ### Trace records (R139 to R143) -/

/-- Appends a record at the tail with the next sequence number; a full buffer loses its oldest record (R139). -/
def TraceUnit.append (t : TraceUnit) (body : TraceBody) : TraceUnit :=
  let full := decide (Config.traceCapacity ≤ t.records.length)
  { t with
    records := (if full then t.records.drop 1 else t.records) ++ [⟨t.seq, body⟩]
    seq := t.seq + 1
    overwritten := if full && t.overwritten != 0xFFFFFFFF#32 then t.overwritten + 1 else t.overwritten }

/-- Takes an arrival that may become a record (R140). `fires` says that it is an address trigger in ARMED. The second
part is the detail of TRACE_STOPPED when it is raised (R141, R143). -/
def TraceUnit.take (t : TraceUnit) (body : TraceBody) (fires : Bool) : TraceUnit × Option Word :=
  match t.state with
  | .off => (t, none)
  | .stopped => (t, none)
  | .capturing =>
    if t.config.mode = .stop ∧ Config.traceCapacity ≤ t.records.length then
      ({ t with state := .stopped }, some (detailBytes 1 0 (t.newest.getD 0)))
    else (t.append body, none)
  | .armed =>
    if fires then
      ({ t.append body with
          state := .post, cause := .address, triggerSeq := some t.seq, postRemaining := t.config.post }, none)
    else (t.append body, none)
  | .post =>
    if t.postRemaining - 1 = 0 then
      ({ t.append body with state := .stopped, postRemaining := 0 }, some (detailBytes 2 0 t.seq))
    else ({ t.append body with postRemaining := t.postRemaining - 1 }, none)

/-- An arrival at the TRU, with TRACE_STOPPED raised when capture stops on it (R141, R143). -/
def State.traceTake (s : State) (body : TraceBody) (fires : Bool) : State :=
  let r := s.trace.take body fires
  match r.2 with
  | none => { s with trace := r.1 }
  | some detail => ({ s with trace := r.1 }).raise .traceStopped detail

/-- The filter of R137. -/
def TraceConfig.passes (c : TraceConfig) (r : EndReport) : Bool :=
  r.trace && (if r.write then c.dirWrite else c.dirRead) && (if r.fetch then c.kindFetch else c.kindData) &&
    c.outcomes.getLsbD r.outcome.code

/-- Host line number of a host word address. -/
def lineOf (a : HostWordAddr) : LineNumber := a.extractLsb' 3 23

/-- The addressed word lies in the trigger window (R142). -/
def TraceConfig.inWindow (c : TraceConfig) (a : HostWordAddr) : Bool :=
  match c.window with
  | none => false
  | some (first, last) => decide (first ≤ lineOf a) && decide (lineOf a ≤ last)

/-- The end report reaches the TRU (R136, R137, R142). -/
def State.traceReport (s : State) (r : EndReport) : State :=
  if s.trace.config.passes r then
    let fires := s.trace.state == .armed && s.trace.config.inWindow r.addr
    s.traceTake (.access r fires) fires
  else s

/-- A marker reaches the TRU (R138). -/
def State.traceMarker (s : State) (m : Marker) : State :=
  if s.trace.config.markers then s.traceTake (.marker m s.timeBase) false else s

/-- One of the raises is the trigger source of an armed TRU, so that its order with a record shows (R142). -/
def State.orderShows (s : State) (rs : List (EventSource × Word)) : Bool :=
  s.trace.state == .armed && rs.any fun r => s.trace.config.source == some r.1

/-- A record and raises that come from one step and reach the TRU in either order (R118, R142): where the order
shows, the free value decides it (log 11). -/
def State.recordWith (s : State) (record : State → State) (rs : List (EventSource × Word)) : State :=
  if s.orderShows rs then
    if Config.recordFirst s.orderChoices then
      (record { s with orderChoices := s.orderChoices + 1 }).raiseAll rs
    else record (State.raiseAll { s with orderChoices := s.orderChoices + 1 } rs)
  else (record s).raiseAll rs

/-! ### Line store (chapter 2) -/

/-- Puts a line into the line store. -/
def LineStore.setLine (st : LineStore) (l : LineIdx) (x : StoreLine) : LineStore :=
  { st with lines := st.lines.set l.val x l.isLt }

/-- The eight words of a fill, each with a fresh check value (R22). -/
def filledWords (f : WordIdx → Word) : Vector StoreWord 8 :=
  #v[⟨f 0, true⟩, ⟨f 1, true⟩, ⟨f 2, true⟩, ⟨f 3, true⟩, ⟨f 4, true⟩, ⟨f 5, true⟩, ⟨f 6, true⟩, ⟨f 7, true⟩]

/-- Fills a line for a SUBSTITUTE entry; the bad mark stays as it was (R22). -/
def LineStore.fill (st : LineStore) (l : LineIdx) (mask : BitVec 8) (data : List Word) : LineStore :=
  st.setLine l { st.lines[l] with words := filledWords (patchWord mask data) }

/-- Disturbances of store words (log 6). -/
def LineStore.upset (st : LineStore) (us : List Upset) : LineStore :=
  us.foldl
    (fun st u =>
      st.setLine u.line
        { st.lines[u.line] with words := st.lines[u.line].words.set u.word.val ⟨u.data, u.agrees⟩ u.word.isLt })
    st

/-- Disturbances of store words, in the whole state (log 6). -/
def State.upset (s : State) (us : List Upset) : State := { s with store := s.store.upset us }

/-- A failed test: an unmarked line is marked and LINE_FAULT raised; a marked one stays as it is (R23). -/
def State.lineFailed (s : State) (l : LineIdx) : State :=
  if s.store.lines[l].bad then s
  else
    ({ s with store := s.store.setLine l { s.store.lines[l] with bad := true } }).raise .lineFault
      (detailBytes (BitVec.ofNat 8 l.val) 0 0)

/-- Reads and tests masked words of a line, and marks the line when one fails (R21, R23). -/
def State.testWords (s : State) (l : LineIdx) (idxs : List WordIdx) : State :=
  if s.store.lines[l].anyFails idxs then s.lineFailed l else s

/-- The words of a line at the masked indices, as read (R21). -/
def StoreLine.masked (x : StoreLine) (mask : BitVec 8) : List Word := (maskedIdxs mask).map fun i => x.words[i].data

/-- An allocation (R26), or none when the free list is empty (R27). FREE_LOW is raised on a crossing (R34). -/
def State.allocate (s : State) (mask : BitVec 8) (data : List Word) : Option (LineIdx × State) :=
  match s.store.freeList with
  | [] => none
  | l :: rest =>
    let st := { s.store with freeList := rest }
    let filled := st.fill l mask data
    let s' := { s with store := filled.setLine l { filled.lines[l] with refCount := 1 } }
    if s.store.threshold.toNat ≤ rest.length + 1 ∧ rest.length < s.store.threshold.toNat then
      some (l, s'.raise .freeLow (detailBytes (BitVec.ofNat 8 rest.length) 0 0))
    else some (l, s')

/-- One reference more, for CLONE_ACTIVE (R28). -/
def LineStore.share (st : LineStore) (l : LineIdx) : LineStore :=
  st.setLine l { st.lines[l] with refCount := st.lines[l].refCount + 1 }

/-- A release (R29). -/
def LineStore.release (st : LineStore) (l : LineIdx) : LineStore :=
  let st' := st.setLine l { st.lines[l] with refCount := st.lines[l].refCount - 1 }
  if st.lines[l].refCount - 1 = 0 then
    if st.lines[l].bad then { st' with badList := st'.badList ++ [l] }
    else { st' with freeList := st'.freeList ++ [l] }
  else st'

/-- The release of an entry that leaves its table; a REDIRECT or WATCH names no line (R29). -/
def LineStore.releaseEntry (st : LineStore) (e : Entry) : LineStore :=
  match e.storeLine with
  | none => st
  | some l => st.release l

/-- The lines of the store with one of its functions applied to each. -/
def LineStore.mapLines (f : StoreLine → StoreLine) (v : Vector StoreLine 256) : Vector StoreLine 256 :=
  ⟨(v.toList.map f).toArray, by simp⟩

/-- The line store after either reset: accounting at reset, words kept (R22, R38). -/
def LineStore.afterReset (st : LineStore) : LineStore :=
  { lines := LineStore.mapLines (fun x => { x with refCount := 0, bad := false }) st.lines
    freeList := List.finRange 256, badList := [], threshold := 0 }

/-! ### Tables and roles (chapter 1) -/

/-- The table of a letter. -/
def Tables.get (t : Tables) : Letter → Table
  | .a => t.a
  | .b => t.b
  | .c => t.c

/-- Puts a table at a letter. -/
def Tables.set (t : Tables) (x : Table) : Letter → Tables
  | .a => { t with a := x }
  | .b => { t with b := x }
  | .c => { t with c := x }

/-- The letter that carries a role (R1). -/
def Roles.letter (r : Roles) : Role → Letter
  | .active => r.active
  | .staged => r.staged
  | .retained => r.retained

/-- The table that carries a role (R1). -/
def State.table (s : State) (r : Role) : Table := s.tables.get (s.roles.letter r)

/-- Replaces the table that carries a role. -/
def State.setTable (s : State) (r : Role) (x : Table) : State :=
  { s with tables := s.tables.set x (s.roles.letter r) }

/-- The slots of a table in ascending order. -/
def allSlots : List Slot := List.finRange 64

/-- The occupied slots in ascending order, with their entries (R2). -/
def Table.entries (t : Table) : List (Slot × Entry) := allSlots.filterMap fun i => t.slots[i].map fun e => (i, e)

/-- The entry count of the set record (R1). -/
def Table.count (t : Table) : Nat := t.entries.length

/-- The slot of the entry with a line number (R2, R6). -/
def Table.find (t : Table) (line : LineNumber) : Option Slot :=
  allSlots.find? fun i => t.slots[i].any fun e => e.line == line

/-- The lowest-numbered free slot (R4). -/
def Table.lowestFree (t : Table) : Option Slot := allSlots.find? fun i => t.slots[i].isNone

/-- Writes one slot of a table. -/
def Table.setSlot (t : Table) (i : Slot) (e : Option Entry) : Table := { t with slots := t.slots.set i.val e i.isLt }

/-- Inserts by line number, for the walk of verification. -/
def insertByLine (x : Slot × Entry) : List (Slot × Entry) → List (Slot × Entry)
  | [] => [x]
  | y :: ys => if x.2.line ≤ y.2.line then x :: y :: ys else y :: insertByLine x ys

/-- The entries in ascending line number: the canonical order of the set CRC and of the walk (R50, R51). -/
def Table.walk (t : Table) : List (Slot × Entry) := t.entries.foldr insertByLine []

/-- The first bad line named by a table, in ascending slot order (R67, R74). -/
def State.firstBadLine (s : State) (t : Table) : Option LineIdx :=
  t.entries.findSome? fun x =>
    match x.2.storeLine with
    | none => none
    | some l => if s.store.lines[l].bad then some l else none

/-- The line store after the release of a whole table in ascending slot order (R30). -/
def LineStore.releaseTable (st : LineStore) (t : Table) : LineStore :=
  t.entries.foldl (fun st x => st.releaseEntry x.2) st

/-- Releases the table that carries a role and clears its set record (R30). -/
def State.releaseRole (s : State) (r : Role) : State :=
  { s with store := s.store.releaseTable (s.table r) }.setTable r Table.empty

/-- The serialisation of an entry with the words of its line (R50). -/
def State.entryBytes (s : State) (e : Entry) : List Byte :=
  (e.toRecord (match e.body with
    | .substitute mask l => s.store.lines[l].masked mask
    | _ => [])).bytes

/-- Set CRC of a table: CRC-32 over its entries in ascending line number (R50). -/
def State.setCrc (s : State) (t : Table) : Word := crc32 (t.walk.flatMap fun x => s.entryBytes x.2)

/-- The entry of a record, with hit count 0, once its line is known (R45, R46, R84). -/
def EntryRecord.toEntry (r : EntryRecord) (l : LineIdx) : Entry :=
  { line := r.line, origin := r.origin, reportFirstHit := r.report, hitCount := 0
    body := match r.body with
      | .substitute mask _ => .substitute mask l
      | .redirect ce target => .redirect ce target
      | .watch threshold dir => .watch threshold dir }

/-! ### Region table (chapter 6) -/

/-- Length of a window (R97). -/
def RegionRecord.size (r : RegionRecord) : Nat := 4096 * 2 ^ r.sizeExp.toNat

/-- The record is on and its window contains the host byte address (R99). -/
def RegionRecord.contains (r : RegionRecord) (a : Nat) : Bool :=
  r.enabled && decide (r.base.toNat ≤ a) && decide (a < r.base.toNat + r.size)

/-- The classification of a host byte address (R99). -/
def RegionTable.classify (t : RegionTable) (a : Nat) : Classification :=
  match (List.finRange 8).find? fun i => t.records[i].contains a with
  | some i =>
    let r := t.records[i]
    { record := some i, kind := r.kind, base := r.base, ce := r.ce, offset := r.offset, wait := r.wait,
      policy := r.policy, trace := r.trace }
  | none =>
    let g := t.background
    { record := none, kind := g.kind.toRegion, base := 0, ce := .ce0, offset := 0, wait := g.wait,
      policy := g.policy, trace := g.trace }

/-- The mapped downstream byte address of a host byte address (R100). -/
def Classification.mapped (c : Classification) (a : Nat) : Nat :=
  match c.record with
  | some _ => c.offset.toNat + (a - c.base.toNat)
  | none => a % Config.downstreamSize

/-! ### Memory port (chapter 8) -/

/-- The ready timeout of a chip enable (R124). -/
def MemPort.timeoutOf (p : MemPort) : ChipEnable → BitVec 8
  | .ce0 => p.timeout0
  | .ce1 => p.timeout1

/-- Sets the ready timeout of a chip enable (R133). -/
def MemPort.setTimeout (p : MemPort) (t : BitVec 8) : ChipEnable → MemPort
  | .ce0 => { p with timeout0 := t }
  | .ce1 => { p with timeout1 := t }

/-- Starts an access with the chip enable's timeout and the time base as they stand (R126). -/
def MemPort.start (p : MemPort) (now : Word) (who : Requester) (r : PortRequest) : MemPort :=
  { p with access := some { who := who, givenUp := false, req := r, timeout := p.timeoutOf r.ce, start := now,
                            steps := 0 } }

/-- Sets the waiting request of a requester. -/
def MemPort.setWaiting (p : MemPort) (r : Option PortRequest) : Requester → MemPort
  | .host => { p with host := r }
  | .loader => { p with loader := r }
  | .verifier => { p with verifier := r }

/-- A request arrives: granted at once when the port is FREE, waiting when it is BUSY (R130). -/
def MemPort.request (p : MemPort) (now : Word) (who : Requester) (r : PortRequest) : MemPort :=
  match p.access with
  | none => p.start now who r
  | some _ => p.setWaiting (some r) who

/-- The port becomes FREE and the waiting request of highest precedence is granted (R130). -/
def MemPort.free (p : MemPort) (now : Word) : MemPort :=
  let p := { p with access := none }
  match p.host, p.loader, p.verifier with
  | some r, _, _ => (p.setWaiting none .host).start now .host r
  | none, some r, _ => (p.setWaiting none .loader).start now .loader r
  | none, none, some r => (p.setWaiting none .verifier).start now .verifier r
  | none, none, none => p

/-- A requester gives up its accesses: a waiting request is withdrawn, an access in progress runs on for no one
(R132). -/
def MemPort.giveUp (p : MemPort) (who : Requester) : MemPort :=
  { p.setWaiting none who with
    access := p.access.map fun a => if a.who = who then { a with givenUp := true } else a }

/-- The port after a service reset: an access in progress runs on for no one (R124, R132). -/
def MemPort.afterServiceReset (p : MemPort) : MemPort :=
  { MemPort.reset with access := p.access.map fun a => { a with givenUp := true } }

/-- A request at the port, at the time base as it stands. -/
def State.request (s : State) (who : Requester) (r : PortRequest) : State :=
  { s with port := s.port.request s.timeBase who r }

/-- A read of one word: all four byte enables (R125). -/
def readRequest (ce : ChipEnable) (addr : DownAddr) (wait : BitVec 4) : PortRequest :=
  { ce := ce, addr := addr, write := false, data := 0, enables := 0xF, wait := wait }

/-- The three phases of an access (R126). How long each lasts is timing, so the phase is no field of State (log 8). -/
inductive AccessPhase where
  | address | waitStates | ready
deriving DecidableEq, Repr

/-- What the part drives on the memory side (R123): CE0n, CE1n, MA, MBEn, MOEn, MWEn and MD. `ma` is `none` where no rule
gives MA a level (DESIGN CHOICE, log 25); `md` is `none` where the part does not drive MD. -/
structure MemPins where
  ce0n : Bool
  ce1n : Bool
  ma   : Option (BitVec 24)
  mben : BitVec 4
  moen : Bool
  mwen : Bool
  md   : Option Word
deriving DecidableEq, Repr

/-- The memory side as the port drives it in a phase of the access in progress (R123, R125, R126, R129): MOEn or MWEn is
low from the wait states to the end. Between accesses, and so after an end, an expiry and a pin reset, chip enables, MOEn,
MWEn and byte enables are high and MD is not driven (R123, R126, R127, R132); R123 gives MA no level then, and neither does
the model (DESIGN CHOICE, log 25). -/
def MemPort.pins (p : MemPort) (phase : AccessPhase) : MemPins :=
  match p.access with
  | none => { ce0n := true, ce1n := true, ma := none, mben := 0xF, moen := true, mwen := true, md := none }
  | some a =>
    { ce0n := a.req.ce != .ce0, ce1n := a.req.ce != .ce1, ma := some (a.req.addr.extractLsb' 2 24),
      mben := ~~~a.req.enables, moen := a.req.write || phase == .address, mwen := !a.req.write || phase == .address,
      md := if a.req.write then some a.req.data else none }

/-! ### Executor (R168) -/

/-- A response is appended to the tail of the response queue (R168). -/
def State.respond (s : State) (tag : Byte) (result : ResultCode) (payload : List Byte) : State :=
  { s with svp := { s.svp with responses := s.svp.responses ++ [⟨tag, result, payload⟩] } }

/-- The command at the head of the command queue that the executor can take now: none during pin reset, while a
command is executing, or with an empty queue (R168, R169). -/
def State.nextCommand (s : State) : Option (QueuedCommand × State) :=
  if s.inReset || s.svp.executing.isSome then none
  else
    match s.svp.commands with
    | [] => none
    | c :: rest => some (c, { s with svp := { s.svp with commands := rest } })

/-- The executor takes the head command if it has this code; a payload length that fits no form of the command is
answered with BAD_ARGUMENT before the owning rule runs (R168). -/
def State.runCommand (s : State) (code : Byte) (body : QueuedCommand → State → State) : State :=
  match s.nextCommand with
  | none => s
  | some (c, s') =>
    if c.code ≠ code then s
    else if !payloadFits code c.payload.length then s'.respond c.tag .badArgument []
    else body c s'

/-- What the owning block makes of a command: the state and the response's result and payload. -/
abbrev Reply := State × ResultCode × List Byte

/-- A refusal: nothing changes and the payload is empty (R183). -/
def State.refuse (s : State) (r : ResultCode) : Reply := (s, r, [])

/-- A command that ends when it executes: its response is queued at once (R168). -/
def State.runReply (s : State) (code : Byte) (body : List Byte → State → Reply) : State :=
  s.runCommand code fun c s' =>
    let r := body c.payload s'
    r.1.respond c.tag r.2.1 r.2.2

/-- An event of the part that needs the part out of pin reset; otherwise nothing happens (R120). -/
def State.whenUp (s : State) (f : State → State) : State := if s.inReset then s else f s

end Sys2Proof.Machine
end

