-- ==== Sys2Proof/Machine/Events.lean ====
section
/-! DEFINITION. The five event commands (R155 to R159). -/

namespace Sys2Proof.Machine

open Sys2Proof

/-- EVENT_CONFIG (R157). -/
def State.runEventConfig (p : List Byte) (s : State) : Reply :=
  match eventConfigArgs p with
  | none => s.refuse .badArgument
  | some (i, enable, level) =>
    let x := s.events.sources[i]
    ({ s with events := s.events.setSource i { x with enable := enable, level := level } }, .ok,
      [BitVec.ofNat 8 (i.val + 1), flagByte x.enable, BitVec.ofNat 8 x.level, flagByte enable, BitVec.ofNat 8 level])

/-- EVENT_CONFIG, command code 0x70 (R157). -/
def execEventConfig (s : State) : Result := .next (s.runReply 0x70 State.runEventConfig)

/-- The event unit after a take: the source clear with count 0, its level in service (R155). -/
def EventUnit.taken (e : EventUnit) (i : Fin 14) : EventUnit :=
  let x := e.sources[i]
  { e.setSource i { x with pending := false, count := 0 } with inService := x.level :: e.inService }

/-- TAKE_EVENT (R155, R180). -/
def State.runTakeEvent (_p : List Byte) (s : State) : Reply :=
  match s.events.choose with
  | none => (s, .noEvent, [BitVec.ofNat 8 s.events.highest, BitVec.ofNat 8 s.events.pendingCount])
  | some i =>
    let x := s.events.sources[i]
    let e := s.events.taken i
    ({ s with events := e }, .ok,
      [BitVec.ofNat 8 (i.val + 1), BitVec.ofNat 8 x.level, x.count, BitVec.ofNat 8 e.pendingCount] ++ wordBytes x.detail)

/-- TAKE_EVENT, command code 0x71 (R155). -/
def execTakeEvent (s : State) : Result := .next (s.runReply 0x71 State.runTakeEvent)

/-- FINISH_EVENT (R156). -/
def State.runFinishEvent (_p : List Byte) (s : State) : Reply :=
  if s.events.inService.isEmpty then s.refuse .notInService
  else
    let top := s.events.highest
    let e := { s.events with inService := s.events.inService.filter fun l => l != top }
    ({ s with events := e }, .ok, [BitVec.ofNat 8 top, BitVec.ofNat 8 e.highest])

/-- FINISH_EVENT, command code 0x72 (R156). -/
def execFinishEvent (s : State) : Result := .next (s.runReply 0x72 State.runFinishEvent)

/-- The 23 bytes of EVENT_STATUS in summary form (R159, R183). -/
def State.eventSummaryBytes (s : State) : List Byte :=
  let e := s.events
  leBytes 2 (sourceMask fun i => e.sources[i].enable) ++ leBytes 2 (sourceMask fun i => e.sources[i].pending) ++
    leBytes 2 (sourceMask e.eligible) ++ ((List.finRange 14).map fun i => BitVec.ofNat 8 e.sources[i].level) ++
    [flagBits [false, e.inService.contains 1, e.inService.contains 2, e.inService.contains 3, e.inService.contains 4],
     BitVec.ofNat 8 e.highest, flagByte s.alertLow]

/-- The 12 bytes of EVENT_STATUS in source form (R159, R183). -/
def EventUnit.sourceBytes (e : EventUnit) (i : Fin 14) : List Byte :=
  let x := e.sources[i]
  [BitVec.ofNat 8 (i.val + 1), flagByte x.enable, BitVec.ofNat 8 x.level, flagByte x.pending, x.count, 0, 0, 0] ++
    wordBytes x.detail

/-- EVENT_STATUS: summary form, or source form with a source number (R159). -/
def State.runEventStatus (p : List Byte) (s : State) : Reply :=
  if p.length = 0 then (s, .ok, s.eventSummaryBytes)
  else
    match EventSource.ofNumber (byteAt p 0).toNat with
    | none => s.refuse .badArgument
    | some src => (s, .ok, s.events.sourceBytes src.index)

/-- EVENT_STATUS, command code 0x73 (R159). -/
def execEventStatus (s : State) : Result := .next (s.runReply 0x73 State.runEventStatus)

/-- RAISE_EVENT (R158). -/
def State.runRaiseEvent (p : List Byte) (s : State) : Reply :=
  let s1 := s.raise .software (BitVec.ofNat 32 (field p 0 4))
  (s1, .ok, [s1.events.sources[EventSource.software.index].count])

/-- RAISE_EVENT, command code 0x74 (R158). -/
def execRaiseEvent (s : State) : Result := .next (s.runReply 0x74 State.runRaiseEvent)

end Sys2Proof.Machine
end

