-- ==== Sys2Proof/Machine/HostBus.lean ====
section
/-! DEFINITION. The host bus interface and the lookup path (chapters 1 and 7): requests, acceptance, serving of beats,
the end of a transaction. -/

namespace Sys2Proof.Machine

open Sys2Proof

/-! ### Requests (R111, R112) -/

/-- HOST_REQUEST: in IDLE the HBI moves to WAITING; while a transaction is in flight the request stays on the pins until
its end (R111, R112; log 13). A request already waiting stays as presented. -/
def execHostRequest (r : HostRequest) (s : State) : Result :=
  .next (s.whenUp fun s =>
    match s.hbi.state with
    | .idle => { s with hbi := { s.hbi with state := .waiting r } }
    | .waiting _ => s
    | .inFlight _ => { s with hbi := { s.hbi with nextRequest := some r } })

/-- REQUEST_WITHDRAWN: HREQ falls before acceptance (R112). -/
def execRequestWithdrawn (s : State) : Result :=
  .next (s.whenUp fun s =>
    match s.hbi.state with
    | .idle => s
    | .waiting _ => { s with hbi := { s.hbi with state := .idle } }
    | .inFlight _ => { s with hbi := { s.hbi with nextRequest := none } })

/-! ### The decision record (R114, R115) -/

/-- Word index of beat `j`, counted from 0, of an `n`-beat transaction at addressed word index `a` (R7). -/
def beatIdx (a n j : Nat) : WordIdx :=
  let b := a - a % n
  Fin.ofNat 8 (b + (a - b + j) % n)

/-- The addressed word index of a host word address. -/
def wordIdxOf (a : HostWordAddr) : Nat := a.toNat % 8

/-- Source of a read beat under a matched entry (R8). -/
def EntryBody.source (b : EntryBody) (i : WordIdx) : BeatSource :=
  match b with
  | .substitute mask l => if mask.getLsbD i.val then .store l else .memory
  | .redirect ce target => .target ce target
  | .watch _ _ => .memory

/-- One source per beat of a read; MEMORY where no entry matches (R8, R114). -/
def planFor (e : Option Entry) (addr : HostWordAddr) (len : BitVec 2) : List BeatSource :=
  (List.range (beatCount len)).map fun j =>
    match e with
    | none => .memory
    | some e => e.body.source (beatIdx (wordIdxOf addr) (beatCount len) j)

/-- The decision record formed at acceptance (R6, R8, R114, R115). -/
def State.decisionFor (s : State) (r : HostRequest) : Decision :=
  let c := s.regions.classify (hostByte r.addr)
  let act := s.table .active
  let slot := if c.kind = .patchable then act.find (lineOf r.addr) else none
  let e := match slot with
    | none => none
    | some i => act.slots[i]
  { addr := r.addr, write := r.write, fetch := r.fetch && !r.write, len := r.len, region := c,
    letter := s.roles.active, generation := act.generation, slot := slot,
    plan := if r.write then [] else planFor e r.addr r.len }

/-- The matched entry of a decision record (R8). -/
def State.matchedEntry (s : State) (d : Decision) : Option Entry :=
  match d.slot with
  | none => none
  | some i => (s.tables.get d.letter).slots[i]

/-! ### The end of a transaction (R117, R118) -/

/-- A hit count that stops at 65535 (R5). -/
def satHit (c : BitVec 16) : BitVec 16 := if c = 65535 then c else c + 1

/-- The lookup events of a counted hit: FIRST_HIT and WATCH_REACHED (R16, R17). -/
def Entry.hitRaises (e : Entry) : List (EventSource × Word) :=
  let new := satHit e.hitCount
  (if e.hitCount = 0 ∧ e.reportFirstHit then [(.firstHit, e.line.setWidth 32)] else []) ++
    match e.body with
    | .watch threshold _ =>
      if new ≠ e.hitCount ∧ new = threshold ∧ threshold ≠ 0 then [(.watchReached, e.line.setWidth 32)] else []
    | _ => []

/-- The raises at the end of a transaction: the lookup events, WRITE_UNDER_PATCH and ACCESS_REFUSED (R16, R17, R18,
R104). -/
def endRaises (e : Option Entry) (d : Decision) (outcome : TxnOutcome) : List (EventSource × Word) :=
  (match e with
   | none => []
   | some e =>
     (if e.counts d.write then e.hitRaises else []) ++
       if d.write && e.patches then [(.writeUnderPatch, hostByteWord d.addr)] else []) ++
    if outcome = .blocked ∨ outcome = .refused then [(.accessRefused, hostByteWord d.addr)] else []

/-- Counts the hit in the table of the decision record (R15). -/
def State.countHit (s : State) (d : Decision) : State :=
  match d.slot, s.matchedEntry d with
  | some i, some e =>
    if e.counts d.write then
      { s with
        tables := s.tables.set ((s.tables.get d.letter).setSlot i (some { e with hitCount := satHit e.hitCount })) d.letter }
    else s
  | _, _ => s

/-- The end report (R19, R118). -/
def State.endReport (s : State) (d : Decision) (outcome : TxnOutcome) : EndReport :=
  { addr := d.addr, write := d.write, fetch := d.fetch, len := d.len, region := d.region.record,
    trace := d.region.trace, slot := d.slot, generation := d.generation, outcome := outcome,
    underPatch := d.write && (s.matchedEntry d).any Entry.patches, time := s.timeBase }

/-- The transaction opens the gate of a pending GATED commit (R63). -/
def opensGate (pc : PendingCommit) (d : Decision) (okay : Bool) : Bool :=
  pc.args.mode == .gated && !pc.gateOpen && !d.write && d.fetch && okay &&
    decide (pc.args.gateBase.toNat ≤ (lineOf d.addr).toNat) &&
    decide ((lineOf d.addr).toNat < pc.args.gateBase.toNat + pc.args.gateLength)

/-- The gate test of the SCU: an open gate stops the timer and makes the effect point due (R63, R64). An end that comes
when the time base has reached the deadline finds the expiry first and opens nothing (R65). -/
def State.gateTest (s : State) (d : Decision) (okay : Bool) : State :=
  match s.scu.commit with
  | none => s
  | some pc =>
    if opensGate pc d okay && !s.gateTimerExpired then
      { s with scu := { s.scu with commit := some { pc with gateOpen := true, deadline := none } } }
    else s

/-- The HBI leaves IN_FLIGHT: to WAITING when HREQ is high at the end, else to IDLE (R112). -/
def State.leaveFlight (s : State) : State :=
  { s with
    hbi := { s.hbi with
      state := match s.hbi.nextRequest with
        | none => .idle
        | some r => .waiting r
      nextRequest := none } }

/-- A strobe to the host. -/
def State.strobe (s : State) (x : HostStrobe) : State := { s with hbi := { s.hbi with strobes := s.hbi.strobes ++ [x] } }

/-- The strobe of an ERROR end: HEND and HERR, HRD 0, no beat transferred (R117). -/
def errorStrobe : HostStrobe := { hrd := some 0, hstb := false, hend := true, herr := true }

/-- The end of a transaction: hit count and lookup events, end report to the TRU, gate test, and the boundary (R15 to
R19, R63, R112, R118). `before` are raises that the failing access has made. -/
def State.endTransaction (s : State) (d : Decision) (okay : Bool) (outcome : TxnOutcome)
    (before : List (EventSource × Word)) : State :=
  let s1 := if okay then s else s.strobe errorStrobe
  let report := s1.endReport d outcome
  let s2 := (s1.countHit d).recordWith (fun s => s.traceReport report) (before ++ endRaises (s1.matchedEntry d) d outcome)
  (s2.gateTest d okay).leaveFlight

/-! ### Serving the beats (R9 to R14, R116) -/

/-- Outcome of a read that ends OKAY (R12). -/
def readOutcome (e : Option Entry) (t : Txn) : TxnOutcome :=
  match e with
  | none => .pass
  | some e =>
    match e.body with
    | .substitute _ _ =>
      if t.fellBack then .fallback
      else if t.dec.plan.all (fun b => match b with | .store _ => true | _ => false) then .substituted
      else .merged
    | .redirect _ _ => .redirected
    | .watch _ _ => .watched

/-- Outcome of a write that ends OKAY (R14, R103). -/
def writeOutcome (e : Option Entry) (t : Txn) : TxnOutcome :=
  if t.dec.region.policy = .discard then .discarded
  else
    match e with
    | some { body := .watch _ _, .. } => .watched
    | _ => .pass

/-- Mapped downstream address of the beat at hand (R9, R100). -/
def Txn.beatAddr (t : Txn) : DownAddr :=
  let i := beatIdx (wordIdxOf t.dec.addr) (beatCount t.dec.len) t.done
  BitVec.ofNat 26 (t.dec.region.mapped (32 * (lineOf t.dec.addr).toNat + 4 * i.val))

/-- The beat waits for its memory-side access (R116). -/
def State.awaitBeat (s : State) (t : Txn) (r : PortRequest) : State :=
  State.request { s with hbi := { s.hbi with state := .inFlight t } } .host r

/-- The memory read of a beat planned MEMORY, or of a fallback beat (R9, R10). -/
def Txn.memoryRead (t : Txn) : PortRequest := readRequest t.dec.region.ce t.beatAddr t.dec.region.wait

/-- The read of a beat planned TARGET: the same word index of the target line, the region's wait states (R11). -/
def Txn.targetRead (t : Txn) (ce : ChipEnable) (target : DownLine) : PortRequest :=
  let i := beatIdx (wordIdxOf t.dec.addr) (beatCount t.dec.len) t.done
  readRequest ce (BitVec.ofNat 26 (32 * target.toNat + 4 * i.val)) t.dec.region.wait

/-- Serves the read beats still planned, up to the next memory-side access or the end (R9 to R12, R116). -/
def State.serveRead : List BeatSource → Txn → State → State
  | [], t, s => s.endTransaction t.dec true (readOutcome (s.matchedEntry t.dec) t) []
  | b :: rest, t, s =>
    match b with
    | .memory => s.awaitBeat t t.memoryRead
    | .target ce target => s.awaitBeat t (t.targetRead ce target)
    | .store l =>
      let w := s.store.lines[l].words[beatIdx (wordIdxOf t.dec.addr) (beatCount t.dec.len) t.done]
      if s.store.lines[l].bad then State.awaitBeat s { t with fellBack := true } t.memoryRead
      else if w.agrees then
        State.serveRead rest { t with done := t.done + 1 }
          (s.strobe { hrd := some w.data, hstb := true, hend := rest.isEmpty, herr := false })
      else (s.lineFailed l).awaitBeat { t with fellBack := true } t.memoryRead

/-- The next write beat as the host drives it (R109, R116). -/
def Txn.writeBeat (t : Txn) : WriteBeat := t.writes.headD { data := 0, enables := 0 }

/-- The transaction after a beat has been strobed (R116). -/
def Txn.next (t : Txn) : Txn := { t with done := t.done + 1, writes := t.writes.tail }

/-- The strobe of a write beat; `last` carries HEND (R116, R117). -/
def writeStrobe (last : Bool) : HostStrobe := { hrd := none, hstb := true, hend := last, herr := false }

/-- Serves the write beats that remain: FORWARD writes those with a byte enable, DISCARD drops all (R103, R116, R129). -/
def State.serveWrite : Nat → Txn → State → State
  | 0, t, s => s.endTransaction t.dec true (writeOutcome (s.matchedEntry t.dec) t) []
  | n + 1, t, s =>
    if t.dec.region.policy = .discard ∨ t.writeBeat.enables = 0 then
      State.serveWrite n t.next (s.strobe (writeStrobe (n == 0)))
    else
      s.awaitBeat t
        { ce := t.dec.region.ce, addr := t.beatAddr, write := true, data := t.writeBeat.data,
          enables := t.writeBeat.enables, wait := t.dec.region.wait }

/-- Serves a transaction just accepted: refused at its first beat, or beat by beat (R102, R103, R116). -/
def State.serve (s : State) (t : Txn) : State :=
  if t.dec.region.kind = .blocked then s.endTransaction t.dec false .blocked []
  else if t.dec.write then
    if t.dec.region.policy = .refuse then s.endTransaction t.dec false .refused []
    else State.serveWrite (beatCount t.dec.len) t s
  else State.serveRead t.dec.plan t s

/-- A waiting request is accepted now: the hold state is RUNNING and no boundary effect is due (R114, R119). -/
def State.accepts (s : State) : Bool := !s.hbi.held && !s.effectDue

/-- ACCEPTANCE (R114). -/
def execAcceptance (us : List Upset) (s : State) : Result :=
  .next (s.whenUp fun s =>
    match s.hbi.state with
    | .waiting r =>
      if s.accepts then
        let t : Txn := { dec := s.decisionFor r, done := 0, fellBack := false, writes := r.writes }
        let s1 := { s with hbi := { s.hbi with state := .inFlight t, strobes := [] } }
        (s1.upset us).serve t
      else s
    | _ => s)

/-- A host access has completed: the beat is strobed and the next one begins (R116, R126). -/
def State.hostWord (s : State) (md : Word) : State :=
  match s.hbi.state with
  | .inFlight t =>
    let last := t.done + 1 == beatCount t.dec.len
    if t.dec.write then
      State.serveWrite (beatCount t.dec.len - (t.done + 1)) t.next (s.strobe (writeStrobe last))
    else
      State.serveRead (t.dec.plan.drop (t.done + 1)) { t with done := t.done + 1 }
        (s.strobe { hrd := some md, hstb := true, hend := last, herr := false })
  | _ => s

/-- A host access has failed by ready timeout: the transaction ends at that beat (R13, R103, R128). -/
def State.hostFailed (s : State) (raises : List (EventSource × Word)) : State :=
  match s.hbi.state with
  | .inFlight t => s.endTransaction t.dec false .failed raises
  | _ => s.raiseAll raises

end Sys2Proof.Machine
end

