-- ==== Sys2Proof/Machine/Commit.lean ====
section
/-! DEFINITION. Commit, commit gate and revert (chapter 4), with the end of a start-up load that its commit brings
(R91, R92). -/

namespace Sys2Proof.Machine

open Sys2Proof

/-! ### The end of a start-up load -/

/-- The generation a load end report carries: the header's (R87). -/
def State.loadGeneration (s : State) : Generation := headerGeneration s.loader.header

/-- The loader returns to IDLE at the end of a start-up load; in LOAD_HOLD the hold is lifted then (R91, R92). -/
def State.endStartUpLoad (s : State) : State :=
  { s with
    loader := { s.loader with state := .idle }
    hbi := if s.straps.mode = .loadHold then { s.hbi with held := false } else s.hbi }

/-- The start-up commit failed, expired or was cancelled: START_FAILED with stage COMMIT, and the load ends (R87, R91). -/
def State.startUpCommitFailed (s : State) (reason : Byte) : State :=
  (s.raise .startFailed (loadReport 3 reason s.loadGeneration)).endStartUpLoad

/-! ### The effect point -/

/-- The pending commit has requester START_UP (R59). -/
def PendingCommit.isStartUp (pc : PendingCommit) : Bool := pc.requester == .startUp

/-- The failed bad-line check of the effect point (R67). -/
def State.commitBadLine (s : State) (pc : PendingCommit) : State :=
  let t := s.table .staged
  let s1 := s.setTable .staged { t with result := .badLine }
  let s2 := { s1 with scu := { s1.scu with state := .failed, commit := none } }
  let s3 := s2.raise .commitResult (detailBytes 1 0 t.generation)
  if pc.isStartUp then s3.startUpCommitFailed 0x09 else s3

/-- The rotation of the roles after the release of the old retained table (R68). -/
def State.rotate (s : State) : State :=
  let s1 := s.releaseRole .retained
  { s1 with
    roles := { active := s.roles.staged, staged := s.roles.retained, retained := s.roles.active }
    scu := { s1.scu with state := .empty, commit := none, computedCrc := 0 } }

/-- The commit takes effect: release, rotation, marker and COMMIT_RESULT (R68, R69, R70). -/
def State.commitDone (s : State) (pc : PendingCommit) : State :=
  let new := (s.table .staged).generation
  let old := (s.table .active).generation
  let marker : Marker := { kind := .commit, newGeneration := new, oldGeneration := old, letter := s.roles.staged }
  let s1 := s.rotate.recordWith (fun s => s.traceMarker marker) [(.commitResult, detailBytes 0 0 new)]
  if pc.isStartUp then s1.endStartUpLoad else s1

/-- The effect point of the pending commit (R67, R68). -/
def State.commitEffect (s : State) : State :=
  match s.scu.commit with
  | none => s
  | some pc =>
    match s.firstBadLine (s.table .staged) with
    | some _ => s.commitBadLine pc
    | none => s.commitDone pc

/-! ### Arming a commit -/

/-- The deadline of a commit: it has one when it is GATED with a nonzero timeout (R59, R61). -/
def CommitArgs.deadline (a : CommitArgs) (now : Word) : Option Word :=
  if a.mode = .gated ∧ a.timeout ≠ 0 then some (now + BitVec.ofNat 32 (gateSteps a.timeout)) else none

/-- The commit takes effect at once: the host is held, or mode AT_BOUNDARY with no transaction in flight (R61). -/
def State.commitAtOnce (s : State) (a : CommitArgs) : Bool := s.hbi.held || (a.mode == .atBoundary && !s.inFlight)

/-- Creates the pending commit, and runs its effect point when it takes effect at once (R61). -/
def State.armCommit (s : State) (a : CommitArgs) (who : CommitRequester) : State :=
  let pc : PendingCommit := { args := a, deadline := a.deadline s.timeBase, requester := who, gateOpen := false }
  let s1 := { s with scu := { s.scu with state := .commitPending, commit := some pc } }
  if s.commitAtOnce a then s1.commitEffect else s1

/-- The loader's commit request, tested as COMMIT is (R59, R60, R91). -/
def State.armStartUp (s : State) (a : CommitArgs) : State :=
  if s.scu.state = .verified ∧ (s.table .active).generation < (s.table .staged).generation then
    s.armCommit a .startUp
  else s

/-- The mode in which a start-up commit is requested (R91). -/
def State.startUpArgs (s : State) : CommitArgs :=
  if headerGatePresent s.loader.header ∧ s.hbi.held = false then headerGate s.loader.header
  else { mode := .atBoundary, gateBase := 0, gateLength := 0, timeout := 0 }

/-- A REVERT waits for its boundary (R73). -/
def State.revertWaits (s : State) : Bool :=
  match s.svp.executing with
  | some x => x.what == .revert
  | none => false

/-- The start-up commit request; behind a waiting REVERT it is armed after the revert's effect (R59, R91). -/
def State.requestStartUpCommit (s : State) : State :=
  if s.revertWaits then { s with scu := { s.scu with deferred := some s.startUpArgs } }
  else s.armStartUp s.startUpArgs

/-- Arms a start-up commit that waited behind a REVERT (R59). -/
def State.takeDeferred (s : State) : State :=
  match s.scu.deferred with
  | none => s
  | some a => State.armStartUp { s with scu := { s.scu with deferred := none } } a

/-! ### COMMIT, CANCEL_COMMIT and the steps of a pending commit -/

/-- Commit disposition after an accepted COMMIT (R61, R175). -/
def State.disposition (s : State) : Byte :=
  if s.scu.commit.isSome then 0 else if s.scu.state = .failed then 2 else 1

/-- COMMIT (R60, R61). -/
def State.runCommit (p : List Byte) (s : State) : Reply :=
  match s.scu.state with
  | .verified =>
    match commitArgs p with
    | none => s.refuse .badArgument
    | some a =>
      let gen := (s.table .staged).generation
      if gen ≤ (s.table .active).generation then s.refuse .generationLow
      else
        let s1 := s.armCommit a .service
        (s1, .ok, leBytes 2 gen.toNat ++ [s1.disposition])
  | .commitPending => s.refuse .busyState
  | .loading => s.refuse .busyState
  | .verifying => s.refuse .busyState
  | .empty => s.refuse .notVerified
  | .opened => s.refuse .notVerified
  | .sealed => s.refuse .notVerified
  | .failed => s.refuse .notVerified

/-- COMMIT, command code 0x30 (R60, R61). -/
def execCommit (s : State) : Result := .next (s.runReply 0x30 State.runCommit)

/-- The pending commit is withdrawn: the staged set returns to VERIFIED (R65, R66). -/
def State.withdrawCommit (s : State) : State :=
  { s with scu := { s.scu with state := .verified, commit := none } }

/-- CANCEL_COMMIT (R66). -/
def State.runCancel (_p : List Byte) (s : State) : Reply :=
  if s.scu.state = .commitPending then
    let s1 := s.withdrawCommit
    let s2 := if s.scu.commit.any PendingCommit.isStartUp then s1.startUpCommitFailed 0x81 else s1
    (s2, .ok, leBytes 2 (s.table .staged).generation.toNat)
  else s.refuse .notPending

/-- CANCEL_COMMIT, command code 0x31 (R66). Between the end that makes the commit due and its effect point the
executor does not take it: the command comes before that end or after the effect point (log 17). -/
def execCancelCommit (s : State) : Result :=
  .next (if s.commitDue && !s.inFlight then s else s.runReply 0x31 State.runCancel)

/-- EFFECT_POINT (R62, R64, R67). -/
def execEffectPoint (s : State) : Result :=
  .next (s.whenUp fun s => if s.commitDue && !s.inFlight then s.commitEffect else s)

/-- The expiry of the gate timer, when the time base stands at the deadline: the commit is withdrawn and COMMIT_RESULT
raised with TIMEOUT (R65). -/
def State.expireGate (s : State) : State :=
  if s.gateTimerExpired then
    let s1 := s.withdrawCommit.raise .commitResult (detailBytes 2 0 (s.table .staged).generation)
    if s.scu.commit.any PendingCommit.isStartUp then s1.startUpCommitFailed 0x80 else s1
  else s

/-- GATE_TIMER_EXPIRY (R65). -/
def execGateTimerExpiry (s : State) : Result := .next (s.whenUp State.expireGate)

/-! ### REVERT and CLEAR_RETAINED -/

/-- The effect point of a REVERT with its response (R74, R75). -/
def State.revertEffect (s : State) (tag : Byte) : State :=
  let new := (s.table .retained).generation
  let old := (s.table .active).generation
  match s.firstBadLine (s.table .retained) with
  | some l => s.respond tag .badLine (leBytes 2 new.toNat ++ [BitVec.ofNat 8 l.val])
  | none =>
    let s1 := { s with roles := { s.roles with active := s.roles.retained, retained := s.roles.active } }
    (s1.traceMarker { kind := .revert, newGeneration := new, oldGeneration := old, letter := s.roles.retained }).respond
      tag .ok (leBytes 2 new.toNat ++ leBytes 2 old.toNat)

/-- REVERT when it executes: refused, at once, or waiting as the executing command (R73, R169). -/
def State.runRevert (c : QueuedCommand) (s : State) : State :=
  match s.scu.state with
  | .commitPending => s.respond c.tag .busyState []
  | .loading => s.respond c.tag .busyState []
  | _ =>
    if s.inFlight && !s.hbi.held then
      { s with svp := { s.svp with executing := some { tag := c.tag, what := .revert } } }
    else s.revertEffect c.tag

/-- REVERT, command code 0x32 (R73, R74). -/
def execRevert (s : State) : Result := .next (s.runCommand 0x32 State.runRevert)

/-- REVERT_EFFECT: the waiting REVERT at its boundary, and then a start-up commit that waited behind it (R59, R74). -/
def execRevertEffect (s : State) : Result :=
  .next (s.whenUp fun s =>
    match s.svp.executing with
    | none => s
    | some x =>
      if x.what = .revert ∧ s.inFlight = false then
        (State.revertEffect { s with svp := { s.svp with executing := none } } x.tag).takeDeferred
      else s)

/-- Lines of a released table that have reached count 0 (R76). -/
def LineStore.zeroed (st : LineStore) (t : Table) : Nat :=
  (t.entries.filterMap fun x => x.2.storeLine).countP fun l => st.lines[l].refCount == 0

/-- CLEAR_RETAINED (R76). -/
def State.runClearRetained (_p : List Byte) (s : State) : Reply :=
  let t := s.table .retained
  let s1 := s.releaseRole .retained
  (s1, .ok, [BitVec.ofNat 8 t.count, BitVec.ofNat 8 (s1.store.zeroed t)])

/-- CLEAR_RETAINED, command code 0x33 (R76). -/
def execClearRetained (s : State) : Result := .next (s.runReply 0x33 State.runClearRetained)

end Sys2Proof.Machine
end

