-- ==== Sys2Proof/Machine/Verify.lean ====
section
/-! DEFINITION. Verification of the staged set (R50 to R55). -/

namespace Sys2Proof.Machine

open Sys2Proof

/-- The end of a verification: result, state, then the report of whoever started it (R53, R88). A start-up load that is OK
raises LOAD_RESULT and then requests its commit (R88); where that commit takes effect in the same step, the notice of
LOAD_RESULT so reaches an armed TRU before the COMMIT marker does, an order that R142 leaves open (DEDUCED, log 11). -/
def State.endVerification (s : State) (r : VerifyResult) : State :=
  match s.scu.verifier with
  | none => s
  | some v =>
    let t := s.table .staged
    let s1 := s.setTable .staged { t with result := r }
    let s2 := { s1 with scu := { s1.scu with state := if r = VerifyResult.ok then .verified else .failed, verifier := none } }
    match v.starter with
    | .verifySet => s2.raise .verifyDone (detailBytes r.code 0 t.generation)
    | .commandLoad =>
      let s3 := s2.raise .loadResult (loadReport 2 r.code s.loadGeneration)
      { s3 with loader := { s3.loader with state := .idle } }
    | .startUpLoad =>
      if r = VerifyResult.ok then
        let s3 := s2.raise .loadResult (loadReport 2 r.code s.loadGeneration)
        State.requestStartUpCommit { s3 with loader := { s3.loader with state := .commit } }
      else (s2.raise .startFailed (loadReport 2 r.code s.loadGeneration)).endStartUpLoad

/-- Requests the next origin word of an entry, or ends with ORIGIN_UNREADABLE where its address is BLOCKED (R52). -/
def State.requestOrigin (s : State) (e : Entry) (v : VerifyRun) : State :=
  let a := 32 * e.line.toNat + 4 * v.origin.length
  let c := s.regions.classify a
  if c.kind = .blocked then s.endVerification .originUnreadable
  else
    State.request { s with scu := { s.scu with verifier := some v } } .verifier
      (readRequest c.ce (BitVec.ofNat 26 (c.mapped a)) c.wait)

/-- The walk over the entries still to visit, up to the next origin word or the end of the verification (R51). -/
def State.walkEntries : List (Slot × Entry) → VerifyRun → State → State
  | [], v, s =>
    let crc := crc32Final v.crc
    State.endVerification { s with scu := { s.scu with computedCrc := crc } }
      (if crc = (s.table .staged).expectedCrc then .ok else .crcMismatch)
  | x :: rest, v, s =>
    let failed := match x.2.body with
      | .substitute mask l =>
        if s.store.lines[l].bad || s.store.lines[l].anyFails (maskedIdxs mask) then some l else none
      | _ => none
    match failed with
    | some l => (s.lineFailed l).endVerification .badLine
    | none =>
      let v1 := { v with crc := crc32Feed v.crc (s.entryBytes x.2), origin := [] }
      match x.2.origin with
      | none => State.walkEntries rest { v1 with passed := v1.passed + 1 } s
      | some _ => s.requestOrigin x.2 v1

/-- A verification starts: VERIFYING, result NONE, walk from the lowest line number (R51). -/
def State.startVerification (s : State) (starter : VerifyStarter) : State :=
  let s1 := s.setTable .staged { s.table .staged with result := .none }
  let v : VerifyRun := { starter := starter, passed := 0, crc := crc32Start, origin := [] }
  State.walkEntries (s.table .staged).walk v
    { s1 with scu := { s1.scu with state := .verifying, verifier := some v } }

/-- The verifier gets an origin word: the next one is requested, or the CRC-16 of the eight is compared (R52). The CRC
takes each word's bytes from the lowest byte address up; that MD[7:0] is the lowest is the model's choice (`mdBytes`, DESIGN
CHOICE, log 28). -/
def State.verifierWord (s : State) (w : Word) : State :=
  match s.scu.verifier with
  | none => s
  | some v =>
    match (s.table .staged).walk.drop v.passed with
    | [] => s
    | x :: rest =>
      let words := v.origin ++ [w]
      if words.length < 8 then s.requestOrigin x.2 { v with origin := words }
      else if x.2.origin = some (crc16 (words.flatMap mdBytes)) then
        State.walkEntries rest { v with passed := v.passed + 1, origin := [] } s
      else s.endVerification .originMismatch

/-- VERIFY_SET (R51). -/
def State.runVerify (us : List Upset) (_p : List Byte) (s : State) : Reply :=
  if s.scu.state = .sealed ∨ s.scu.state = .failed then
    let t := s.table .staged
    ((s.upset us).startVerification .verifySet, .ok, leBytes 2 t.generation.toNat ++ [BitVec.ofNat 8 t.count])
  else s.refuse .busyState

/-- VERIFY_SET, command code 0x27 (R51). -/
def execVerifySet (us : List Upset) (s : State) : Result := .next (s.runReply 0x27 (State.runVerify us))

end Sys2Proof.Machine
end

