-- ==== Sys2Proof/Machine/Loader.lean ====
section
/-! DEFINITION. The image loader, LOAD_IMAGE, the start-up behaviour and RELEASE_HOST (chapter 5). -/

namespace Sys2Proof.Machine

open Sys2Proof

/-- The loader asks for the word at its cursor, with the background wait states as they stand (R81, R125). -/
def State.loaderRequest (s : State) : State :=
  s.request .loader (readRequest s.loader.ce s.loader.cursor s.regions.background.wait)

/-- A load failing in HEADER or BODY: the staged set is discarded, then the failure reported (R86, R87). -/
def State.loadFailed (s : State) (reason : ParseReason) : State :=
  let gen := if s.loader.state = .body then s.loadGeneration else 0
  let s1 := s.releaseRole .staged
  let s2 := { s1 with scu := { s1.scu with state := .empty, computedCrc := 0 } }
  let report := loadReport 1 reason.code gen
  match s.loader.kind with
  | .command =>
    let s3 := s2.raise .loadResult report
    { s3 with loader := { s3.loader with state := .idle } }
  | .startUp => (s2.raise .startFailed report).endStartUpLoad

/-- Takes a load: LOADING, HEADER, the cursor at the image, and the first header word requested (R82, R91). -/
def State.beginLoad (s : State) (kind : LoadKind) (ce : ChipEnable) (at0 : DownAddr) : State :=
  State.loaderRequest
    { s with
      scu := { s.scu with state := .loading }
      loader := { Loader.reset with state := .header, kind := kind, ce := ce, cursor := at0 } }

/-- No records remain: the length test, then the set is SEALED and its chained verification starts (R85). -/
def State.endOfBody (s : State) : State :=
  if s.loader.sum ≠ headerBodyLength s.loader.header then s.loadFailed .lengthMismatch
  else
    let s1 := s.setTable .staged
      { s.table .staged with
        generation := headerGeneration s.loader.header, expectedCrc := headerSetCrc s.loader.header, result := .none }
    State.startVerification
      { s1 with
        scu := { s1.scu with state := .sealed, computedCrc := 0 }
        loader := { s1.loader with state := .verify } }
      (match s.loader.kind with
       | .command => .commandLoad
       | .startUp => .startUpLoad)

/-- Goes on to the next record, or to the end of the body (R83, R84, R85). -/
def State.nextRecord (s : State) : State := if s.loader.remaining = 0 then s.endOfBody else s.loaderRequest

/-- Places an entry in a slot of the staged table (R84 step 5). -/
def State.placeEntry (s : State) (i : Slot) (e : Entry) (len : Nat) : State :=
  let s1 := s.setTable .staged ((s.table .staged).setSlot i (some e))
  State.nextRecord
    { s1 with loader := { s1.loader with remaining := s1.loader.remaining - 1, sum := s1.loader.sum + len, record := [] } }

/-- A record has been read whole: form, duplicate, line, placement (R84 steps 2 to 5). The header test holds the count
to 64, so a slot is free (log 19). -/
def State.recordRead (s : State) (bytes : List Byte) : State :=
  match parseRecord bytes with
  | none => s.loadFailed .badRecord
  | some r =>
    if ((s.table .staged).find r.line).isSome then s.loadFailed .duplicate
    else
      match (s.table .staged).lowestFree with
      | none => s.loadFailed .badCount
      | some i =>
        match r.body with
        | .substitute mask data =>
          match s.allocate mask data with
          | none => s.loadFailed .noLine
          | some (l, s1) => s1.placeEntry i (r.toEntry l) bytes.length
        | _ => s.placeEntry i (r.toEntry 0) bytes.length

/-- The header words are read: the tests of R83, then the body. -/
def State.headerRead (s : State) : State :=
  match headerTest s.loader.header with
  | some reason => s.loadFailed reason
  | none =>
    State.nextRecord
      { s with loader := { s.loader with state := .body, remaining := headerCount s.loader.header, sum := 0, record := [] } }

/-- The loader gets the word at its cursor (R81, R83, R84). That its bytes lie with MD[7:0] at the lowest byte address is the
model's choice (`mdBytes`, DESIGN CHOICE, log 28). -/
def State.loaderWord (s : State) (w : Word) : State :=
  match s.loader.state with
  | .header =>
    let s1 := { s with loader := { s.loader with header := s.loader.header ++ mdBytes w, cursor := s.loader.cursor + 4 } }
    if s1.loader.header.length < 32 then s1.loaderRequest else s1.headerRead
  | .body =>
    let bytes := s.loader.record ++ mdBytes w
    let s1 := { s with loader := { s.loader with record := bytes, cursor := s.loader.cursor + 4 } }
    if bytes.length < 8 then s1.loaderRequest
    else
      match parseFixed bytes with
      | none => s1.loadFailed .badRecord
      | some f => if bytes.length < f.recordLength then s1.loaderRequest else s1.recordRead bytes
  | .idle => s
  | .verify => s
  | .commit => s

/-- A loader read failed by ready timeout (R86). -/
def State.loaderReadFailed (s : State) : State :=
  match s.loader.state with
  | .header => s.loadFailed .readTimeout
  | .body => s.loadFailed .readTimeout
  | .idle => s
  | .verify => s
  | .commit => s

/-- LOAD_IMAGE (R82). -/
def State.runLoadImage (p : List Byte) (s : State) : Reply :=
  if s.scu.state = .empty then
    match loadImageArgs p with
    | none => s.refuse .badArgument
    | some (ce, at0) => (s.beginLoad .command ce at0, .ok, [s.roles.staged.code])
  else s.refuse .busyState

/-- LOAD_IMAGE, command code 0x40 (R82). -/
def execLoadImage (s : State) : Result := .next (s.runReply 0x40 State.runLoadImage)

/-- RELEASE_HOST (R95). -/
def State.runReleaseHost (_p : List Byte) (s : State) : Reply :=
  if s.hbi.held then
    let s1 := { s with hbi := { s.hbi with held := false } }
    (s1, .ok, [s1.startPhase.code])
  else s.refuse .notHeld

/-- RELEASE_HOST, command code 0x41 (R95). -/
def execReleaseHost (s : State) : Result := .next (s.runReply 0x41 State.runReleaseHost)

/-- The start-up behaviour of the latched mode: the hold, and the start-up load (R90, R91, R113). -/
def State.enterStartUp (s : State) : State :=
  let s1 := { s with hbi := { s.hbi with held := s.straps.mode == .loadHold || s.straps.mode == .hold } }
  if s.straps.mode = .loadHold ∨ s.straps.mode = .loadPass then
    s1.beginLoad .startUp .ce0 (BitVec.ofNat 26 (Config.imageSlotOffset s.straps.imgSel.toNat))
  else s1

end Sys2Proof.Machine
end

