-- ==== Sys2Proof/Machine/MemorySide.lean ====
section
/-! DEFINITION. The ends of a memory-side access (R126 to R128, R130, R132). -/

namespace Sys2Proof.Machine

open Sys2Proof

/-- The port becomes FREE and grants the next waiting request (R126, R127, R130). -/
def State.freePort (s : State) : State := { s with port := s.port.free s.timeBase }

/-- ACCESS_COMPLETE: MRDY is high with `md` on MD; the port is freed and granted, then the requester takes its word and
may ask for the next one (R126, R130, R131, R132; log 15). -/
def execAccessComplete (md : Word) (us : List Upset) (s : State) : Result :=
  .next (s.whenUp fun s =>
    match s.port.access with
    | none => s
    | some a =>
      if a.givenUp then s.freePort
      else
        match a.who with
        | .host => (s.freePort.upset us).hostWord md
        | .loader => (s.freePort.upset us).loaderWord md
        | .verifier => (s.freePort.upset us).verifierWord md)

/-- The raise of a failed access (R127). -/
def Access.timeoutRaise (a : Access) : EventSource × Word := (.downstreamTimeout, timeoutDetail a.req.ce a.req.addr)

/-- The expiry of the access in progress, when its count has come to its timeout: the access fails, DOWNSTREAM_TIMEOUT is
raised and its requester is told (R127, R128, R132). -/
def State.expireAccess (s : State) : State :=
  match s.port.access with
  | none => s
  | some a =>
    if a.expired then
      if a.givenUp then s.freePort.raiseAll [a.timeoutRaise]
      else
        match a.who with
        | .host => s.freePort.hostFailed [a.timeoutRaise]
        | .loader => (s.freePort.raiseAll [a.timeoutRaise]).loaderReadFailed
        | .verifier => (s.freePort.raiseAll [a.timeoutRaise]).endVerification .originUnreadable
    else s

/-- ACCESS_EXPIRY (R127). -/
def execAccessExpiry (s : State) : Result := .next (s.whenUp State.expireAccess)

end Sys2Proof.Machine
end

