-- ==== Sys2Proof/Machine/Regions.lean ====
section
/-! DEFINITION. The region commands (chapter 6) and SET_MEMORY_TIMING (chapter 8). -/

namespace Sys2Proof.Machine

open Sys2Proof

/-- Writes one region record whole (R105). -/
def RegionTable.setRecord (t : RegionTable) (i : Fin 8) (r : RegionRecord) : RegionTable :=
  { t with records := t.records.set i.val r i.isLt }

/-- SET_REGION (R105). -/
def State.runSetRegion (p : List Byte) (s : State) : Reply :=
  match setRegionArgs p with
  | none => s.refuse .badArgument
  | some (i, r) => ({ s with regions := s.regions.setRecord i r }, .ok, [BitVec.ofNat 8 i.val])

/-- SET_REGION, command code 0x50 (R105). -/
def execSetRegion (s : State) : Result := .next (s.runReply 0x50 State.runSetRegion)

/-- SET_BACKGROUND (R106). -/
def State.runSetBackground (p : List Byte) (s : State) : Reply :=
  match backgroundArgs p with
  | none => s.refuse .badArgument
  | some g => ({ s with regions := { s.regions with background := g } }, .ok, [])

/-- SET_BACKGROUND, command code 0x52 (R106). -/
def execSetBackground (s : State) : Result := .next (s.runReply 0x52 State.runSetBackground)

/-- The twelve bytes of READ_REGION in address form (R107, R183). -/
def Classification.bytes (c : Classification) (a : Nat) : List Byte :=
  [regionByte c.record, c.kind.code, c.ce.code, c.wait.setWidth 8, c.policy.code, flagByte c.trace, 0, 0] ++
    leBytes 4 (c.mapped a)

/-- READ_REGION: record form or address form by the payload length (R107). -/
def State.runReadRegion (p : List Byte) (s : State) : Reply :=
  if p.length = 1 then
    if h : (byteAt p 0).toNat < 8 then
      (s, .ok, (s.regions.records[(byteAt p 0).toNat]'h).bytes (byteAt p 0).toNat)
    else if byteAt p 0 = 8 then (s, .ok, s.regions.background.bytes)
    else s.refuse .badArgument
  else if 0xFFFFFFF < field p 0 4 then s.refuse .badArgument
  else (s, .ok, (s.regions.classify (field p 0 4)).bytes (field p 0 4))

/-- READ_REGION, command code 0x51 (R107). -/
def execReadRegion (s : State) : Result := .next (s.runReply 0x51 State.runReadRegion)

/-- SET_MEMORY_TIMING: read form or set form by the payload length (R133). -/
def State.runSetMemoryTiming (p : List Byte) (s : State) : Reply :=
  match ChipEnable.ofCode (byteAt p 0) with
  | none => s.refuse .badArgument
  | some ce =>
    if p.length = 1 then (s, .ok, [ce.code, s.port.timeoutOf ce])
    else if 255 < field p 1 2 then s.refuse .badArgument
    else
      let t := BitVec.ofNat 8 (field p 1 2)
      ({ s with port := s.port.setTimeout t ce }, .ok, [ce.code, s.port.timeoutOf ce, t])

/-- SET_MEMORY_TIMING, command code 0x58 (R133). -/
def execSetMemoryTiming (s : State) : Result := .next (s.runReply 0x58 State.runSetMemoryTiming)

end Sys2Proof.Machine
end

