-- ==== Sys2Proof/Machine/Reset.lean ====
section
/-! DEFINITION. The pin reset, the service reset and the time base (R90, R96, R120, R134, R170, R171). -/

namespace Sys2Proof.Machine

open Sys2Proof

/-- Every block at its values after pin reset; the store's words, the straps, SSn and what the host has already been
given are kept (R22, R38, R80, R120, R161). -/
def State.pinResetBlocks (s : State) : State :=
  { State.reset with
    inReset := s.inReset
    straps := s.straps
    hbi := { State.reset.hbi with strobes := s.hbi.strobes }
    store := s.store.afterReset
    svp := { ServicePort.reset with ssLow := s.svp.ssLow, ignoring := s.svp.ssLow }
    orderChoices := s.orderChoices
    pending := s.pending }

/-- PIN_RESET: RESETn goes low; whatever was in flight, waiting or pending is gone (R72, R120, R132, R160). -/
def execPinReset (s : State) : Result := .next { s.pinResetBlocks with inReset := true }

/-- PIN_RESET_END: the straps are latched, every block has its reset values and the start-up behaviour begins (R80, R90).
A select period in progress is ignored (R171). -/
def execPinResetEnd (bootMode imgSel : BitVec 2) (s : State) : Result :=
  .next
    (if s.inReset then
      State.enterStartUp
        { s.pinResetBlocks with inReset := false, straps := { mode := StartMode.ofStrap bootMode, imgSel := imgSel } }
    else s)

/-- The service port after a service reset (R161, R170). -/
def ServicePort.afterServiceReset (p : ServicePort) : ServicePort :=
  { p with
    commands := [], executing := none, responses := [], resetSeen := true, partialMark := false
    out := p.out.map fun o => { o with live := false } }

/-- Every block at its values after a service reset (R96, R112, R124, R161). -/
def State.serviceResetBlocks (s : State) : State :=
  { s with
    timeBase := 0
    regions := RegionTable.reset
    tables := State.reset.tables
    roles := State.reset.roles
    scu := Scu.reset
    store := s.store.afterReset
    loader := Loader.reset
    port := s.port.afterServiceReset
    trace := TraceUnit.reset
    events := EventUnit.reset
    svp := s.svp.afterServiceReset }

/-- A service reset waits for its boundary (R170). -/
def State.serviceResetDue (s : State) : Bool :=
  match s.svp.executing with
  | some x => x.what == .resetPart
  | none => false

/-- SERVICE_RESET at the boundary (R96, R170). -/
def execServiceReset (s : State) : Result :=
  .next (s.whenUp fun s =>
    if s.serviceResetDue && !s.inFlight then s.serviceResetBlocks.enterStartUp else s)

/-- RESET_PART: the service reset becomes due and RESET_PART is the executing command until then (R169, R170). -/
def State.runResetPart (c : QueuedCommand) (s : State) : State :=
  { s with svp := { s.svp with executing := some { tag := c.tag, what := .resetPart } } }

/-- RESET_PART, command code 0x03 (R170). -/
def execResetPart (s : State) : Result := .next (s.runCommand 0x03 State.runResetPart)

/-- The counter advances by 1 and the access in progress counts the step (R127, R134). -/
def State.tick (s : State) : State :=
  { s with
    timeBase := s.timeBase + 1
    port := { s.port with access := s.port.access.map fun a => { a with steps := a.steps + 1 } } }

/-- TIME_BASE_STEP: an expiry that the step before has brought comes about before this step, so no timer runs past its
end; then the counter advances (R65, R127, R134; log 9). -/
def execTimeBaseStep (s : State) : Result := .next (s.whenUp fun s => s.expireGate.expireAccess.tick)

end Sys2Proof.Machine
end

