-- ==== Sys2Proof/Machine/ServicePort.lean ====
section
/-! DEFINITION. The service port: select periods, request frames, the out stream, and the port's own commands
(chapter 11). -/

namespace Sys2Proof.Machine

open Sys2Proof

/-! ### Select periods -/

/-- The status header formed at the fall of SSn (R166). -/
def State.formHeader (s : State) : StatusHeader :=
  { resetSeen := s.svp.resetSeen, alert := s.alertLow, repeated := s.svp.partialMark, verdict := s.svp.lastVerdict,
    tag := s.svp.lastTag, queued := s.svp.responses.length }

/-- SELECT_PERIOD_START: SSn falls; the shifter is emptied and the out stream formed (R163, R166). Under RESETn only the
level of SSn changes (R171). -/
def execSelectPeriodStart (s : State) : Result :=
  .next
    (if s.svp.ssLow then s
     else if s.inReset then { s with svp := { s.svp with ssLow := true } }
     else
       { s with
         svp := { s.svp with
           ssLow := true, ignoring := false, shifter := [], decided := false
           out := some { header := s.formHeader, response := s.svp.responses.head?, headerSent := false,
                         live := !s.svp.responses.isEmpty } } })

/-- A select period that the port takes part in (R162, R171). -/
def State.portOpen (s : State) : Bool := !s.inReset && s.svp.ssLow && !s.svp.ignoring

/-- One whole byte enters the receive shifter (R163). -/
def State.shiftIn (s : State) (b : Byte) : State := { s with svp := { s.svp with shifter := s.svp.shifter ++ [b] } }

/-! ### What a byte brings at the out side -/

/-- Out byte 4 has been clocked out: a reset-seen flag that the header carried is cleared (R166). -/
def State.headerOut (s : State) : State :=
  match s.svp.out with
  | none => s
  | some o =>
    if 4 ≤ s.svp.shifter.length ∧ o.headerSent = false then
      { s with
        svp := { s.svp with
          out := some { o with headerSent := true }
          resetSeen := if o.header.resetSeen then false else s.svp.resetSeen } }
    else s

/-- The last out byte of a response frame in a period (R167). -/
def Response.lastByte (r : Response) : Nat := 10 + r.payload.length

/-- The last CRC byte of the response going out has been clocked out, and the response is still in the queue: one that a
service reset has removed ends nothing (R167, R170). -/
def ServicePort.responseEnds (p : ServicePort) : Bool :=
  match p.out with
  | none => false
  | some o => o.live && o.response.any fun r => decide (r.lastByte ≤ p.shifter.length)

/-- The oldest response leaves the queue with its partial mark at its last CRC byte (R167). -/
def State.responseOut (s : State) : State :=
  if s.svp.responseEnds then
    { s with
      svp := { s.svp with
        out := s.svp.out.map fun o => { o with live := false }
        responses := s.svp.responses.tail, partialMark := false } }
  else s

/-! ### What a byte brings at the request side -/

/-- The verdict of the period and its tag (R163). -/
def State.setVerdict (s : State) (v : Verdict) (tag : Byte) : State :=
  { s with svp := { s.svp with lastVerdict := v, lastTag := tag, decided := true } }

/-- REFUSED_FORMAT or REFUSED_CRC, with FRAME_ERROR (R164). -/
def State.refuseFrame (s : State) (v : Verdict) (tag : Byte) : State :=
  (s.setVerdict v tag).raise .frameError (detailBytes v.code tag 0)

/-- There is room for one more command (R165). -/
def ServicePort.hasRoom (p : ServicePort) : Bool :=
  decide (p.commands.length < Config.commandCapacity) &&
    decide (p.responses.length + p.commands.length + (if p.executing.isSome then 1 else 0) < Config.portCapacity)

/-- A frame that passed R164 is accepted or refused at its last CRC byte (R165). -/
def State.acceptFrame (s : State) (c : QueuedCommand) : State :=
  if s.svp.hasRoom then
    State.setVerdict { s with svp := { s.svp with commands := s.svp.commands ++ [c] } } .accepted c.tag
  else s.setVerdict .refusedFull c.tag

/-- A whole frame: the CRC test, then acceptance (R164, R165). -/
def State.decideFrame (s : State) (c : QueuedCommand) (crcOk : Bool) : State :=
  if crcOk then s.acceptFrame c else s.refuseFrame .refusedCrc c.tag

/-- What the bytes clocked in so far decide, each test as soon as its byte has arrived: a bad first byte, a length byte
above 56, or a whole frame; once decided, the period's further bytes are fill (R163, R164, R165). -/
def State.decideByte (s : State) : State :=
  if s.svp.decided then s
  else
    match readPeriod s.svp.shifter with
    | .malformed tag => s.refuseFrame .refusedFormat tag
    | .whole c crcOk => s.decideFrame c crcOk
    | .nothing => s
    | .poll => s
    | .incomplete _ => s

/-- A request frame that passes R164 ends at this byte and waits for its decision by R165. -/
def ServicePort.frameEnds (p : ServicePort) : Bool :=
  !p.decided &&
    match readPeriod p.shifter with
    | .whole _ crcOk => crcOk
    | _ => false

/-! ### Clocking bytes -/

/-- One byte in and one byte out, with all that this byte brings: the header's last byte, the response's last byte, the
decision of the request, each at its own byte and so in the order of their bytes (R162 to R167). Where one byte ends both
the response and a frame, R165 leaves their order open, and the free value decides it (log 11). -/
def State.clockByte (s : State) (b : Byte) : State :=
  let s1 := (s.shiftIn b).headerOut
  if s1.svp.frameEnds && s1.svp.responseEnds then
    let s2 := { s1 with orderChoices := s1.orderChoices + 1 }
    if Config.responseFirst s1.orderChoices then s2.responseOut.decideByte else s2.decideByte.responseOut
  else s1.responseOut.decideByte

/-- Bytes clocked one after the other (R162, R163). -/
def State.clock (s : State) (bytes : List Byte) : State := bytes.foldl State.clockByte s

/-- Bytes clocked in a select period; nothing happens outside a period the port takes part in (R163, R171). -/
def State.inPeriod (s : State) (bytes : List Byte) : State := if s.portOpen then s.clock bytes else s

/-- STATUS_HEADER_SENT: the bytes up to out byte 4 (R166; log 12). -/
def execStatusHeaderSent (bytes : List Byte) (s : State) : Result := .next (s.inPeriod bytes)

/-- RESPONSE_SENT: the bytes up to the response's last CRC byte (R167; log 12). -/
def execResponseSent (bytes : List Byte) (s : State) : Result := .next (s.inPeriod bytes)

/-- REQUEST_FRAME: the bytes up to the frame's last CRC byte (R164, R165; log 12). -/
def execRequestFrame (bytes : List Byte) (s : State) : Result := .next (s.inPeriod bytes)

/-- MALFORMED_REQUEST: the bytes up to a first byte that is neither 0x00 nor 0xA5, or to a length byte above 56 (R164;
log 12). -/
def execMalformedRequest (bytes : List Byte) (s : State) : Result := .next (s.inPeriod bytes)

/-! ### The end of a select period -/

/-- The verdict at the rise of SSn of a period still undecided: a poll, or a frame cut short (R163, R164). The last two
cases come at their bytes, so none is left at the rise. -/
def State.decideAtEnd (s : State) : State :=
  if s.svp.decided then s
  else
    match readPeriod s.svp.shifter with
    | .nothing => s.setVerdict .poll 0
    | .poll => s.setVerdict .poll 0
    | .incomplete tag => s.refuseFrame .refusedFormat tag
    | .malformed tag => s.refuseFrame .refusedFormat tag
    | .whole c crcOk => s.decideFrame c crcOk

/-- The response of the period has been cut short: SSn rises after out byte 5 and before its last byte (R167). -/
def ServicePort.cutShort (p : ServicePort) : Bool :=
  match p.out with
  | none => false
  | some o =>
    match o.response with
    | none => false
    | some r => o.live && decide (5 ≤ p.shifter.length) && decide (p.shifter.length < r.lastByte)

/-- The rise of SSn in a period the port takes part in: the verdict of a period still undecided, and the partial mark of a
response cut short (R163, R164, R167). -/
def State.closePeriod (s : State) : State :=
  let s1 := s.decideAtEnd
  { s1 with svp := { s1.svp with partialMark := s1.svp.partialMark || s1.svp.cutShort } }

/-- SELECT_PERIOD_END: the last bytes of the period, then the rise of SSn (R163, R164, R167, R171; log 12). -/
def execSelectPeriodEnd (bytes : List Byte) (s : State) : Result :=
  let s1 := if s.portOpen then (s.clock bytes).closePeriod else s
  .next { s1 with svp := { s1.svp with ssLow := false, ignoring := false, decided := false, out := none } }

/-! ### The port's own commands -/

/-- UNKNOWN_COMMAND: the executor takes a command whose code is not listed (R168). -/
def execUnknownCommand (s : State) : Result :=
  .next
    (match s.nextCommand with
     | none => s
     | some (c, s') => if listedCode c.code then s else s'.respond c.tag .unknownCommand [])

/-- ECHO (R172). -/
def State.runEcho (p : List Byte) (s : State) : Reply := (s, .ok, p)

/-- ECHO, command code 0x01 (R172). -/
def execEcho (s : State) : Result := .next (s.runReply 0x01 State.runEcho)

/-- The 21 bytes of IDENTIFY (R173, R183). -/
def State.identifyBytes (s : State) : List Byte :=
  leBytes 2 0x5A4C ++ leBytes 2 0x0256 ++ [1, 1, 1, 0] ++ leBytes 2 256 ++ [3, 64, 8, 14] ++ leBytes 2 512 ++
    [4, 8, s.straps.mode.code, s.straps.imgSel.setWidth 8, s.startPhase.code]

/-- IDENTIFY (R173). -/
def State.runIdentify (_p : List Byte) (s : State) : Reply := (s, .ok, s.identifyBytes)

/-- IDENTIFY, command code 0x02 (R173). -/
def execIdentify (s : State) : Result := .next (s.runReply 0x02 State.runIdentify)

end Sys2Proof.Machine
end

