-- ==== Sys2Proof/Machine/Sets.lean ====
section
/-! DEFINITION. The staged-set commands and READ_ENTRY (chapters 1 and 3). -/

namespace Sys2Proof.Machine

open Sys2Proof

/-- OPEN_SET (R42). -/
def State.runOpenSet (_p : List Byte) (s : State) : Reply :=
  if s.scu.state = .empty then
    ({ s with scu := { s.scu with state := .opened } }, .ok, [s.roles.staged.code])
  else s.refuse .busyState

/-- OPEN_SET, command code 0x20 (R42). -/
def execOpenSet (s : State) : Result := .next (s.runReply 0x20 State.runOpenSet)

/-- An entry of the active table as CLONE_ACTIVE copies it: hit count 0, all else kept (R5, R43). -/
def Entry.cloned (e : Entry) : Entry := { e with hitCount := 0 }

/-- The staged table after CLONE_ACTIVE: a copy in each occupied slot of the active table (R43). -/
def Table.cloneInto (staged active : Table) : Table :=
  active.entries.foldl (fun t x => t.setSlot x.1 (some x.2.cloned)) staged

/-- One more reference for each line the entries name (R28). -/
def LineStore.shareAll (st : LineStore) (t : Table) : LineStore :=
  t.entries.foldl
    (fun st x =>
      match x.2.storeLine with
      | none => st
      | some l => st.share l)
    st

/-- CLONE_ACTIVE (R28, R43). -/
def State.runCloneActive (_p : List Byte) (s : State) : Reply :=
  if s.scu.state = .empty then
    let act := s.table .active
    let s1 := s.setTable .staged ((s.table .staged).cloneInto act)
    ({ s1 with scu := { s1.scu with state := .opened }, store := s.store.shareAll act }, .ok,
      BitVec.ofNat 8 act.count :: leBytes 2 act.generation.toNat)
  else s.refuse .busyState

/-- CLONE_ACTIVE, command code 0x21 (R43). -/
def execCloneActive (s : State) : Result := .next (s.runReply 0x21 State.runCloneActive)

/-- Creates a staged entry in a slot, once its line side is done; the response carries slot and store line (R45). -/
def State.putEntry (s : State) (i : Slot) (e : Entry) : Reply :=
  (s.setTable .staged ((s.table .staged).setSlot i (some e)), .ok,
    [BitVec.ofNat 8 i.val,
     match e.storeLine with
     | none => 0
     | some l => BitVec.ofNat 8 l.val])

/-- Gives a record an entry on a freshly allocated line, or refuses with NO_LINE (R26, R27). -/
def State.putAllocated (s : State) (i : Slot) (r : EntryRecord) (mask : BitVec 8) (data : List Word)
    (after : State → State) : Reply :=
  match s.allocate mask data with
  | none => s.refuse .noLine
  | some (l, s1) => (after s1).putEntry i (r.toEntry l)

/-- ADD_ENTRY (R44, R45). -/
def State.runAddEntry (p : List Byte) (s : State) : Reply :=
  if s.scu.state = .opened then
    match parseRecord p with
    | none => s.refuse .badArgument
    | some r =>
      if ((s.table .staged).find r.line).isSome then s.refuse .duplicate
      else
        match (s.table .staged).lowestFree with
        | none => s.refuse .tableFull
        | some i =>
          match r.body with
          | .substitute mask data => s.putAllocated i r mask data id
          | _ => s.putEntry i (r.toEntry 0)
  else s.refuse .busyState

/-- ADD_ENTRY, command code 0x22 (R45). -/
def execAddEntry (s : State) : Result := .next (s.runReply 0x22 State.runAddEntry)

/-- A release in the whole state (R29). -/
def State.release (s : State) (l : LineIdx) : State := { s with store := s.store.release l }

/-- The line side of a replacement and the replacement itself (R32, R33, R46). -/
def State.replaceEntry (s : State) (i : Slot) (old : Entry) (r : EntryRecord) : Reply :=
  match old.storeLine, r.body with
  | some l, .substitute mask data =>
    if s.store.lines[l].refCount = 1 then
      State.putEntry { s with store := s.store.fill l mask data } i (r.toEntry l)
    else s.putAllocated i r mask data (fun s1 => s1.release l)
  | some l, _ => (s.release l).putEntry i (r.toEntry 0)
  | none, .substitute mask data => s.putAllocated i r mask data id
  | none, _ => s.putEntry i (r.toEntry 0)

/-- MODIFY_ENTRY (R44, R46). -/
def State.runModifyEntry (p : List Byte) (s : State) : Reply :=
  if s.scu.state = .opened then
    match parseRecord p with
    | none => s.refuse .badArgument
    | some r =>
      match (s.table .staged).find r.line with
      | none => s.refuse .notFound
      | some i =>
        match (s.table .staged).slots[i] with
        | none => s.refuse .notFound
        | some old => s.replaceEntry i old r
  else s.refuse .busyState

/-- MODIFY_ENTRY, command code 0x23 (R46). -/
def execModifyEntry (s : State) : Result := .next (s.runReply 0x23 State.runModifyEntry)

/-- REMOVE_ENTRY (R47). -/
def State.runRemoveEntry (p : List Byte) (s : State) : Reply :=
  if s.scu.state = .opened then
    match lineNumberArg p with
    | none => s.refuse .badArgument
    | some line =>
      match (s.table .staged).find line with
      | none => s.refuse .notFound
      | some i =>
        match (s.table .staged).slots[i] with
        | none => s.refuse .notFound
        | some e =>
          (State.setTable { s with store := s.store.releaseEntry e } .staged ((s.table .staged).setSlot i none),
            .ok, [BitVec.ofNat 8 i.val])
  else s.refuse .busyState

/-- REMOVE_ENTRY, command code 0x24 (R47). -/
def execRemoveEntry (s : State) : Result := .next (s.runReply 0x24 State.runRemoveEntry)

/-- SEAL_SET (R48). -/
def State.runSealSet (p : List Byte) (s : State) : Reply :=
  if s.scu.state = .opened then
    if field p 0 2 = 0 then s.refuse .badArgument
    else
      let t := s.table .staged
      let s1 := s.setTable .staged
        { t with generation := BitVec.ofNat 16 (field p 0 2), expectedCrc := BitVec.ofNat 32 (field p 2 4) }
      ({ s1 with scu := { s1.scu with state := .sealed, computedCrc := 0 } }, .ok, [BitVec.ofNat 8 t.count])
  else s.refuse .busyState

/-- SEAL_SET, command code 0x25 (R48). -/
def execSealSet (s : State) : Result := .next (s.runReply 0x25 State.runSealSet)

/-- UNSEAL_SET (R49). -/
def State.runUnsealSet (_p : List Byte) (s : State) : Reply :=
  if s.scu.state = .sealed ∨ s.scu.state = .verified ∨ s.scu.state = .failed then
    let s1 := s.setTable .staged { s.table .staged with generation := 0, expectedCrc := 0, result := .none }
    ({ s1 with scu := { s1.scu with state := .opened, computedCrc := 0 } }, .ok, [])
  else s.refuse .busyState

/-- UNSEAL_SET, command code 0x26 (R49). -/
def execUnsealSet (s : State) : Result := .next (s.runReply 0x26 State.runUnsealSet)

/-- A start-up load owns the staged set, in LOADING or in its chained VERIFYING (R40, R56). -/
def State.startUpOwnsSet (s : State) : Bool :=
  (s.scu.state == .loading && s.loader.kind == .startUp) ||
    (s.scu.state == .verifying && s.scu.verifier.any fun v => v.starter == .startUpLoad)

/-- DISCARD_SET in a state that holds a set: verification and command load are abandoned, the entries released, the
record emptied (R55, R56, R89). -/
def State.discard (s : State) : State :=
  let s1 := s.releaseRole .staged
  { s1 with
    scu := { s1.scu with state := .empty, verifier := none, computedCrc := 0 }
    loader := if s.loader.kind = .command then { s1.loader with state := .idle } else s1.loader
    port := (s.port.giveUp .loader).giveUp .verifier }

/-- DISCARD_SET (R40, R56). -/
def State.runDiscardSet (_p : List Byte) (s : State) : Reply :=
  if s.scu.state = .empty then (s, .ok, [0])
  else if s.scu.state = .commitPending ∨ s.startUpOwnsSet then s.refuse .busyState
  else (s.discard, .ok, [BitVec.ofNat 8 (s.table .staged).count])

/-- DISCARD_SET, command code 0x28 (R56). -/
def execDiscardSet (s : State) : Result := .next (s.runReply 0x28 State.runDiscardSet)

/-- Nine bytes of one role in QUERY_SETS (R57, R183). -/
def State.roleBytes (s : State) (r : Role) : List Byte :=
  let t := s.table r
  (s.roles.letter r).code :: leBytes 2 t.generation.toNat ++ wordBytes t.expectedCrc ++
    [t.result.code, BitVec.ofNat 8 t.count]

/-- What started the load or verification in progress; 0 in other states (R57, R183). -/
def State.startedBy (s : State) : Byte :=
  match s.scu.state with
  | .loading =>
    match s.loader.kind with
    | .command => VerifyStarter.commandLoad.code
    | .startUp => VerifyStarter.startUpLoad.code
  | .verifying =>
    match s.scu.verifier with
    | none => 0
    | some v => v.starter.code
  | _ => 0

/-- Mode, window and timeout of the pending commit, in COMMIT_PENDING; 0 otherwise (R57, R183). -/
def State.commitBytes (s : State) : List Byte :=
  match s.scu.commit with
  | none => List.replicate 9 0
  | some pc =>
    pc.args.mode.code :: leBytes 3 pc.args.gateBase.toNat ++ [0] ++ leBytes 2 pc.args.gateLength ++
      leBytes 2 pc.args.timeout.toNat

/-- The 44 bytes of QUERY_SETS (R57, R183). -/
def State.querySetsBytes (s : State) : List Byte :=
  s.roleBytes .active ++ s.roleBytes .staged ++ s.roleBytes .retained ++
    [s.scu.state.code, s.startedBy,
     (match s.scu.verifier with
      | none => 0
      | some v => BitVec.ofNat 8 v.passed),
     s.startPhase.code] ++
    s.commitBytes ++ wordBytes s.scu.computedCrc

/-- QUERY_SETS (R57). -/
def State.runQuerySets (_p : List Byte) (s : State) : Reply := (s, .ok, s.querySetsBytes)

/-- QUERY_SETS, command code 0x29 (R57). -/
def execQuerySets (s : State) : Result := .next (s.runReply 0x29 State.runQuerySets)

/-- READ_ENTRY of an occupied slot (R20, R21, R179). -/
def State.readOccupied (s : State) (r : Role) (i : Slot) (e : Entry) : Reply :=
  let pre (l check : Byte) : List Byte :=
    [r.code, BitVec.ofNat 8 i.val] ++ leBytes 2 (s.table r).generation.toNat ++ leBytes 2 e.hitCount.toNat ++ [l, check]
  match e.body with
  | .substitute mask l =>
    (s.testWords l (maskedIdxs mask), .ok,
      pre (BitVec.ofNat 8 l.val) (wordCheck s.store.lines[l] (maskedIdxs mask)) ++ s.entryBytes e)
  | _ => (s, .ok, pre 0 0 ++ s.entryBytes e)

/-- READ_ENTRY (R20, R21). -/
def State.runReadEntry (us : List Upset) (p : List Byte) (s : State) : Reply :=
  match readEntryArgs p with
  | none => s.refuse .badArgument
  | some (r, i) =>
    let t := s.table r
    match t.slots[i] with
    | none =>
      (s, .notFound, [r.code, BitVec.ofNat 8 i.val] ++ leBytes 2 t.generation.toNat ++ [BitVec.ofNat 8 t.count])
    | some e => (s.upset us).readOccupied r i e

/-- READ_ENTRY, command code 0x11 (R20). -/
def execReadEntry (us : List Upset) (s : State) : Result := .next (s.runReply 0x11 (State.runReadEntry us))

end Sys2Proof.Machine
end

