-- ==== Sys2Proof/Machine/Store.lean ====
section
/-! DEFINITION. The line store's commands (chapter 2). -/

namespace Sys2Proof.Machine

open Sys2Proof

/-- SET_FREE_THRESHOLD (R35). -/
def State.runSetFreeThreshold (p : List Byte) (s : State) : Reply :=
  match thresholdArg p with
  | none => s.refuse .badArgument
  | some t => ({ s with store := { s.store with threshold := t } }, .ok, leBytes 2 s.store.freeList.length)

/-- SET_FREE_THRESHOLD, command code 0x16 (R35). -/
def execSetFreeThreshold (s : State) : Result := .next (s.runReply 0x16 State.runSetFreeThreshold)

/-- The eight words of a scrub: zero with fresh check values (R36). -/
def LineStore.zeroLine (st : LineStore) (l : LineIdx) : LineStore :=
  st.setLine l { st.lines[l] with words := filledWords fun _ => 0 }

/-- A scrub that passed: mark cleared, line moved to the tail of the free list (R36). -/
def LineStore.scrubbed (st : LineStore) (l : LineIdx) : LineStore :=
  let st' := st.setLine l { st.lines[l] with bad := false }
  { st' with badList := st'.badList.filter (fun x => x != l), freeList := st'.freeList ++ [l] }

/-- Payload of SCRUB_LINE (R36, R183). -/
def LineStore.scrubBytes (st : LineStore) (l : LineIdx) (check : Byte) : List Byte :=
  [BitVec.ofNat 8 l.val, check] ++ leBytes 2 st.freeList.length ++ leBytes 2 st.badList.length

/-- SCRUB_LINE; the disturbances fall between the writing of the zeros and the read-back (R36; log 6). -/
def State.runScrubLine (us : List Upset) (p : List Byte) (s : State) : Reply :=
  match lineIndexArg p with
  | none => s.refuse .badArgument
  | some l =>
    if s.store.badList.contains l then
      let st := (s.store.zeroLine l).upset us
      if st.lines[l].anyFails wordIdxs then
        ({ s with store := st }, .scrubFailed, st.scrubBytes l (wordCheck st.lines[l] wordIdxs))
      else
        let st' := st.scrubbed l
        ({ s with store := st' }, .ok, st'.scrubBytes l 0)
    else s.refuse .notFound

/-- SCRUB_LINE, command code 0x15 (R36). -/
def execScrubLine (us : List Upset) (s : State) : Result := .next (s.runReply 0x15 (State.runScrubLine us))

/-- A table names a line (R37). -/
def Table.names (t : Table) (l : LineIdx) : Bool := t.entries.any fun x => x.2.storeLine == some l

/-- The number of referenced lines (R37). -/
def LineStore.referenced (st : LineStore) : Nat := st.lines.toList.countP fun x => x.refCount != 0

/-- The 26 bytes of the summary of QUERY_STORE (R37, R183). -/
def LineStore.summaryBytes (st : LineStore) : List Byte :=
  let firstBad := st.badList.take 16
  leBytes 2 st.freeList.length ++ leBytes 2 st.badList.length ++ leBytes 2 st.referenced ++
    [st.threshold, flagByte (!st.freeList.isEmpty),
     (match st.freeList with
      | [] => 0
      | l :: _ => BitVec.ofNat 8 l.val),
     BitVec.ofNat 8 firstBad.length] ++
    (firstBad.map fun l => BitVec.ofNat 8 l.val) ++ List.replicate (16 - firstBad.length) 0

/-- Place and position of a line (R37, R183). -/
def LineStore.placeOf (st : LineStore) (l : LineIdx) : Byte × Nat :=
  if st.lines[l].refCount ≠ 0 then (2, 0)
  else if st.badList.contains l then (1, st.badList.idxOf l)
  else (0, st.freeList.idxOf l)

/-- The seven bytes of a line's record in QUERY_STORE (R37, R183). -/
def State.lineRecordBytes (s : State) (l : LineIdx) : List Byte :=
  let x := s.store.lines[l]
  let place := s.store.placeOf l
  [BitVec.ofNat 8 l.val, BitVec.ofNat 8 x.refCount, flagByte x.bad, place.1] ++ leBytes 2 place.2 ++
    [flagBits [(s.table .active).names l, (s.table .staged).names l, (s.table .retained).names l]]

/-- QUERY_STORE: the summary form, or with an index the line form (R37). -/
def State.runQueryStore (p : List Byte) (s : State) : Reply :=
  if p.length = 0 then (s, .ok, s.store.summaryBytes)
  else
    match lineIndexArg p with
    | none => s.refuse .badArgument
    | some l => (s, .ok, s.store.summaryBytes ++ s.lineRecordBytes l)

/-- QUERY_STORE, command code 0x14 (R37). -/
def execQueryStore (s : State) : Result := .next (s.runReply 0x14 State.runQueryStore)

end Sys2Proof.Machine
end

