-- ==== Sys2Proof/Machine/Trace.lean ====
section
/-! DEFINITION. The six trace commands (R144 to R149). -/

namespace Sys2Proof.Machine

open Sys2Proof

/-- Capture is off or stopped (R144, R145). -/
def TraceUnit.atRest (t : TraceUnit) : Bool := t.state == .off || t.state == .stopped

/-- TRACE_CONFIGURE (R144). -/
def State.runTraceConfigure (p : List Byte) (s : State) : Reply :=
  if s.trace.atRest then
    match traceConfigArgs p with
    | none => s.refuse .badArgument
    | some c => ({ s with trace := { s.trace with config := c } }, .ok, [])
  else s.refuse .busyState

/-- TRACE_CONFIGURE, command code 0x60 (R144). -/
def execTraceConfigure (s : State) : Result := .next (s.runReply 0x60 State.runTraceConfigure)

/-- TRACE_START (R145). -/
def State.runTraceStart (_p : List Byte) (s : State) : Reply :=
  if s.trace.atRest then
    let new : CaptureState := if s.trace.config.mode = .triggered then .armed else .capturing
    ({ s with
        trace := { s.trace with
          state := new, cause := .none, triggerSeq := none, postRemaining := s.trace.config.post } },
      .ok, new.code :: leBytes 2 s.trace.records.length)
  else s.refuse .busyState

/-- TRACE_START, command code 0x61 (R145). -/
def execTraceStart (s : State) : Result := .next (s.runReply 0x61 State.runTraceStart)

/-- TRACE_STOP (R146). -/
def State.runTraceStop (_p : List Byte) (s : State) : Reply :=
  let new : CaptureState := if s.trace.atRest then s.trace.state else .stopped
  ({ s with trace := { s.trace with state := new } }, .ok, [s.trace.state.code, new.code])

/-- TRACE_STOP, command code 0x62 (R146). -/
def execTraceStop (s : State) : Result := .next (s.runReply 0x62 State.runTraceStop)

/-- TRACE_READ (R147). -/
def State.runTraceRead (p : List Byte) (s : State) : Reply :=
  let n := (byteAt p 0).toNat
  if 1 ≤ n ∧ n ≤ 3 then
    let out := s.trace.records.take n
    ({ s with trace := { s.trace with records := s.trace.records.drop n } }, .ok,
      BitVec.ofNat 8 out.length :: out.flatMap TraceRecord.bytes)
  else s.refuse .badArgument

/-- TRACE_READ, command code 0x63 (R147). -/
def execTraceRead (s : State) : Result := .next (s.runReply 0x63 State.runTraceRead)

/-- TRACE_CLEAR (R148). -/
def State.runTraceClear (_p : List Byte) (s : State) : Reply :=
  ({ s with trace := { s.trace with records := [], seq := 0, overwritten := 0, triggerSeq := none } }, .ok,
    leBytes 2 s.trace.records.length)

/-- TRACE_CLEAR, command code 0x64 (R148). -/
def execTraceClear (s : State) : Result := .next (s.runReply 0x64 State.runTraceClear)

/-- The 24 bytes of TRACE_STATUS (R149, R183). -/
def State.traceStatusBytes (s : State) : List Byte :=
  let t := s.trace
  [t.state.code, t.config.mode.code, flagBits [!t.records.isEmpty, t.triggerSeq.isSome], t.cause.code] ++
    leBytes 2 t.records.length ++
    leBytes 2 (match t.records with
      | [] => 0
      | r :: _ => r.seq.toNat) ++
    leBytes 2 t.seq.toNat ++ leBytes 2 t.postRemaining ++ leBytes 2 (t.triggerSeq.getD 0).toNat ++ [0, 0] ++
    wordBytes t.overwritten ++ wordBytes s.timeBase

/-- TRACE_STATUS (R149). -/
def State.runTraceStatus (_p : List Byte) (s : State) : Reply := (s, .ok, s.traceStatusBytes)

/-- TRACE_STATUS, command code 0x65 (R149). -/
def execTraceStatus (s : State) : Result := .next (s.runReply 0x65 State.runTraceStatus)

end Sys2Proof.Machine
end

