-- ==== Sys2Proof/Machine/Dispatch.lean ====
section
/-! DEFINITION. The meaning of each command: one arm per row of spec/opcode_table.json. -/

namespace Sys2Proof.Machine

open Sys2Proof

/-- The effect of a command on everything but the queue of waiting commands. -/
def exec (i : Instr) (s : State) : Host.Outcome State Fault Refusal :=
  match i with
  | .pinReset => Sys2Proof.Machine.execPinReset s
  | .pinResetEnd bootMode imgSel => Sys2Proof.Machine.execPinResetEnd bootMode imgSel s
  | .serviceReset => Sys2Proof.Machine.execServiceReset s
  | .timeBaseStep => Sys2Proof.Machine.execTimeBaseStep s
  | .hostRequest req => Sys2Proof.Machine.execHostRequest req s
  | .requestWithdrawn => Sys2Proof.Machine.execRequestWithdrawn s
  | .acceptance upsets => Sys2Proof.Machine.execAcceptance upsets s
  | .accessComplete md upsets => Sys2Proof.Machine.execAccessComplete md upsets s
  | .accessExpiry => Sys2Proof.Machine.execAccessExpiry s
  | .effectPoint => Sys2Proof.Machine.execEffectPoint s
  | .gateTimerExpiry => Sys2Proof.Machine.execGateTimerExpiry s
  | .revertEffect => Sys2Proof.Machine.execRevertEffect s
  | .selectPeriodStart => Sys2Proof.Machine.execSelectPeriodStart s
  | .statusHeaderSent bytes => Sys2Proof.Machine.execStatusHeaderSent bytes s
  | .responseSent bytes => Sys2Proof.Machine.execResponseSent bytes s
  | .requestFrame bytes => Sys2Proof.Machine.execRequestFrame bytes s
  | .selectPeriodEnd bytes => Sys2Proof.Machine.execSelectPeriodEnd bytes s
  | .unknownCommand => Sys2Proof.Machine.execUnknownCommand s
  | .echo => Sys2Proof.Machine.execEcho s
  | .identify => Sys2Proof.Machine.execIdentify s
  | .resetPart => Sys2Proof.Machine.execResetPart s
  | .readEntry upsets => Sys2Proof.Machine.execReadEntry upsets s
  | .queryStore => Sys2Proof.Machine.execQueryStore s
  | .scrubLine upsets => Sys2Proof.Machine.execScrubLine upsets s
  | .setFreeThreshold => Sys2Proof.Machine.execSetFreeThreshold s
  | .openSet => Sys2Proof.Machine.execOpenSet s
  | .cloneActive => Sys2Proof.Machine.execCloneActive s
  | .addEntry => Sys2Proof.Machine.execAddEntry s
  | .modifyEntry => Sys2Proof.Machine.execModifyEntry s
  | .removeEntry => Sys2Proof.Machine.execRemoveEntry s
  | .sealSet => Sys2Proof.Machine.execSealSet s
  | .unsealSet => Sys2Proof.Machine.execUnsealSet s
  | .verifySet upsets => Sys2Proof.Machine.execVerifySet upsets s
  | .discardSet => Sys2Proof.Machine.execDiscardSet s
  | .querySets => Sys2Proof.Machine.execQuerySets s
  | .commit => Sys2Proof.Machine.execCommit s
  | .cancelCommit => Sys2Proof.Machine.execCancelCommit s
  | .revert => Sys2Proof.Machine.execRevert s
  | .clearRetained => Sys2Proof.Machine.execClearRetained s
  | .loadImage => Sys2Proof.Machine.execLoadImage s
  | .releaseHost => Sys2Proof.Machine.execReleaseHost s
  | .setRegion => Sys2Proof.Machine.execSetRegion s
  | .readRegion => Sys2Proof.Machine.execReadRegion s
  | .setBackground => Sys2Proof.Machine.execSetBackground s
  | .setMemoryTiming => Sys2Proof.Machine.execSetMemoryTiming s
  | .traceConfigure => Sys2Proof.Machine.execTraceConfigure s
  | .traceStart => Sys2Proof.Machine.execTraceStart s
  | .traceStop => Sys2Proof.Machine.execTraceStop s
  | .traceRead => Sys2Proof.Machine.execTraceRead s
  | .traceClear => Sys2Proof.Machine.execTraceClear s
  | .traceStatus => Sys2Proof.Machine.execTraceStatus s
  | .eventConfig => Sys2Proof.Machine.execEventConfig s
  | .takeEvent => Sys2Proof.Machine.execTakeEvent s
  | .finishEvent => Sys2Proof.Machine.execFinishEvent s
  | .eventStatus => Sys2Proof.Machine.execEventStatus s
  | .raiseEvent => Sys2Proof.Machine.execRaiseEvent s
  | .malformedRequest bytes => Sys2Proof.Machine.execMalformedRequest bytes s

end Sys2Proof.Machine
end

