-- ==== Sys2Proof/Safety.lean ====
section
/-! DEFINITION. What the spec says holds of the part at every moment, as predicates of State, and the words in which
the statements speak of a command at the head of the command queue and of its response. -/

namespace Sys2Proof.Machine

open Sys2Proof

/-! ### A service command and its end (R168) -/

/-- The executor can take a command now, and the one at the head of the queue is this one (R168, R169). -/
abbrev State.offers (s : State) (code tag : Byte) (payload : List Byte) (rest : List QueuedCommand) : Prop :=
  s.inReset = false ∧ s.svp.executing = none ∧ s.svp.commands = ⟨tag, code, payload⟩ :: rest

/-- The command taken from the queue has ended, its response appended to the response queue (R168). -/
def State.ended (s : State) (rest : List QueuedCommand) (tag : Byte) (result : ResultCode) (payload : List Byte) : State :=
  { s with svp := { s.svp with commands := rest, responses := s.svp.responses ++ [⟨tag, result, payload⟩] } }

/-- The command has been taken from the queue and has not ended. -/
def State.taken (s : State) (rest : List QueuedCommand) : State := { s with svp := { s.svp with commands := rest } }

/-- The rows of the table that are service commands (section 11.7), with their codes. -/
def commandCode : Instr → Option Byte
  | .echo => some 0x01
  | .identify => some 0x02
  | .resetPart => some 0x03
  | .readEntry _ => some 0x11
  | .queryStore => some 0x14
  | .scrubLine _ => some 0x15
  | .setFreeThreshold => some 0x16
  | .openSet => some 0x20
  | .cloneActive => some 0x21
  | .addEntry => some 0x22
  | .modifyEntry => some 0x23
  | .removeEntry => some 0x24
  | .sealSet => some 0x25
  | .unsealSet => some 0x26
  | .verifySet _ => some 0x27
  | .discardSet => some 0x28
  | .querySets => some 0x29
  | .commit => some 0x30
  | .cancelCommit => some 0x31
  | .revert => some 0x32
  | .clearRetained => some 0x33
  | .loadImage => some 0x40
  | .releaseHost => some 0x41
  | .setRegion => some 0x50
  | .readRegion => some 0x51
  | .setBackground => some 0x52
  | .setMemoryTiming => some 0x58
  | .traceConfigure => some 0x60
  | .traceStart => some 0x61
  | .traceStop => some 0x62
  | .traceRead => some 0x63
  | .traceClear => some 0x64
  | .traceStatus => some 0x65
  | .eventConfig => some 0x70
  | .takeEvent => some 0x71
  | .finishEvent => some 0x72
  | .eventStatus => some 0x73
  | .raiseEvent => some 0x74
  | .pinReset => none
  | .pinResetEnd _ _ => none
  | .serviceReset => none
  | .timeBaseStep => none
  | .hostRequest _ => none
  | .requestWithdrawn => none
  | .acceptance _ => none
  | .accessComplete _ _ => none
  | .accessExpiry => none
  | .effectPoint => none
  | .gateTimerExpiry => none
  | .revertEffect => none
  | .selectPeriodStart => none
  | .statusHeaderSent _ => none
  | .responseSent _ => none
  | .requestFrame _ => none
  | .selectPeriodEnd _ => none
  | .unknownCommand => none
  | .malformedRequest _ => none

/-- Whether the staged set accepts a staged-set command as things stand (R40, table); `none` for every other row. -/
def State.stagedAccepts (s : State) : Instr → Option Bool
  | .openSet => some (s.scu.state == .empty)
  | .cloneActive => some (s.scu.state == .empty)
  | .addEntry => some (s.scu.state == .opened)
  | .modifyEntry => some (s.scu.state == .opened)
  | .removeEntry => some (s.scu.state == .opened)
  | .sealSet => some (s.scu.state == .opened)
  | .unsealSet => some (s.scu.state == .sealed || s.scu.state == .verified || s.scu.state == .failed)
  | .verifySet _ => some (s.scu.state == .sealed || s.scu.state == .failed)
  | .discardSet =>
    some (s.scu.state != .commitPending &&
      !(s.scu.state == .loading && s.loader.kind == .startUp) &&
      !(s.scu.state == .verifying && s.scu.verifier.any fun v => v.starter == .startUpLoad))
  | .querySets => some true
  | _ => none

/-- The states in which the entries of the staged set are frozen (R41). -/
def StagedState.frozen (st : StagedState) : Bool :=
  st == .sealed || st == .verifying || st == .verified || st == .failed || st == .commitPending

/-! ### Tables and lines (R1, R2, R3, R24, R25) -/

/-- No table carries two roles (R1). -/
abbrev Roles.distinct (r : Roles) : Prop := r.active ≠ r.staged ∧ r.active ≠ r.retained ∧ r.staged ≠ r.retained

/-- At most one entry for any line number, and every SUBSTITUTE mask nonzero (R2). -/
abbrev Table.keyed (t : Table) : Prop :=
  (t.entries.map fun x => x.2.line).Nodup ∧
    ∀ x ∈ t.entries, ∀ m l, x.2.body = .substitute m l → m ≠ 0

/-- How many entries of a table name a line (R24). -/
def Table.refs (t : Table) (l : LineIdx) : Nat := t.entries.countP fun x => x.2.storeLine == some l

/-- How many entries name a line, over the three tables (R24). -/
def Tables.refs (t : Tables) (l : LineIdx) : Nat := t.a.refs l + t.b.refs l + t.c.refs l

/-- Within one table no two entries name the same line (R3, R24). -/
abbrev Tables.exclusive (t : Tables) (l : LineIdx) : Prop := t.a.refs l ≤ 1 ∧ t.b.refs l ≤ 1 ∧ t.c.refs l ≤ 1

/-- The store lines that the entries of a table name, in ascending slot order (R30). -/
def Table.lines (t : Table) : List LineIdx := t.entries.filterMap fun x => x.2.storeLine

/-- What the release of a whole table leaves of the line store: each named line loses its reference, and the lines that
reach count 0 join the tail of their list in ascending slot order (R29, R30). -/
abbrev LineStore.tableReleased (before after : LineStore) (t : Table) : Prop :=
  (∀ l : LineIdx, after.lines[l] = { before.lines[l] with refCount := before.lines[l].refCount - t.refs l }) ∧
  after.threshold = before.threshold ∧
  after.freeList = before.freeList ++ t.lines.filter (fun l => before.lines[l].refCount == 1 && !before.lines[l].bad) ∧
  after.badList = before.badList ++ t.lines.filter (fun l => before.lines[l].refCount == 1 && before.lines[l].bad)

/-- The line accounting: counts follow the entries, and every line is free and unmarked, bad-listed and marked, or
referenced, and is in one of these places only (R24, R25). -/
abbrev State.accounted (s : State) : Prop :=
  (∀ l : LineIdx, s.store.lines[l].refCount = s.tables.refs l) ∧
  (∀ l : LineIdx, s.tables.exclusive l) ∧
  s.store.freeList.Nodup ∧ s.store.badList.Nodup ∧
  (∀ l : LineIdx, l ∈ s.store.freeList ↔ s.store.lines[l].refCount = 0 ∧ s.store.lines[l].bad = false) ∧
  (∀ l : LineIdx, l ∈ s.store.badList ↔ s.store.lines[l].refCount = 0 ∧ s.store.lines[l].bad = true)

/-! ### Filling, allocation and release (R22, R26, R29, R34) -/

/-- Which of a record's data words a masked word index receives: the number of set mask bits below it (R22, R44). -/
def patchIndex (mask : BitVec 8) (i : WordIdx) : Nat := ((List.range i.val).filter fun j => mask.getLsbD j).length

/-- The eight words of a line as a fill leaves them, all with agreeing check values (R22). -/
abbrev StoreLine.filledAs (x : StoreLine) (mask : BitVec 8) (data : List Word) : Prop :=
  ∀ i : WordIdx, x.words[i] = ⟨if mask.getLsbD i.val then data.getD (patchIndex mask i) 0 else 0, true⟩

/-- What the allocation of line `l`, the head of the free list before `rest`, leaves of the line store (R26). -/
abbrev LineStore.allocated (before after : LineStore) (l : LineIdx) (rest : List LineIdx) (mask : BitVec 8)
    (data : List Word) : Prop :=
  after.freeList = rest ∧ after.badList = before.badList ∧ after.threshold = before.threshold ∧
  after.lines[l].refCount = 1 ∧ after.lines[l].bad = before.lines[l].bad ∧ after.lines[l].filledAs mask data ∧
  ∀ m : LineIdx, m ≠ l → after.lines[m] = before.lines[m]

/-- What the release of one reference to line `l` leaves of the line store (R29). -/
abbrev LineStore.released (before after : LineStore) (l : LineIdx) : Prop :=
  after.threshold = before.threshold ∧
  after.lines[l] = { before.lines[l] with refCount := before.lines[l].refCount - 1 } ∧
  (∀ m : LineIdx, m ≠ l → after.lines[m] = before.lines[m]) ∧
  after.freeList = before.freeList ++ (if before.lines[l].refCount = 1 ∧ before.lines[l].bad = false then [l] else []) ∧
  after.badList = before.badList ++ (if before.lines[l].refCount = 1 ∧ before.lines[l].bad = true then [l] else [])

/-- The FREE_LOW test of an allocation that leaves `after` lines free (R34). -/
def State.freeLowTest (s : State) (after : Nat) : State :=
  if s.store.threshold.toNat ≤ after + 1 ∧ after < s.store.threshold.toNat then
    s.raise .freeLow (BitVec.ofNat 32 after)
  else s

/-! ### The effect points (R67 to R70, R74, R75) -/

/-- A table names a line that carries the bad mark (R67, R74). -/
abbrev State.namesBadLine (s : State) (r : Role) : Prop :=
  ∃ (i : Slot) (e : Entry) (l : LineIdx), (s.table r).slots[i] = some e ∧ e.storeLine = some l ∧
    s.store.lines[l].bad = true

/-- The trace unit after the append of a record: it takes the next sequence number, and a full buffer loses its oldest
record and counts it (R139). -/
def TraceUnit.appended (t : TraceUnit) (body : TraceBody) : TraceUnit :=
  { t with
    records := (if t.records.length = 512 then t.records.drop 1 else t.records) ++ [⟨t.seq, body⟩]
    seq := t.seq + 1
    overwritten := if t.records.length = 512 ∧ t.overwritten ≠ 0xFFFFFFFF then t.overwritten + 1 else t.overwritten }

/-- The trace unit after the event trigger has fired in ARMED (R142). -/
def TraceUnit.triggered (t : TraceUnit) : TraceUnit :=
  { t with
    state := .post, cause := .event, postRemaining := t.config.post
    triggerSeq := t.records.getLast?.map fun r => r.seq }

/-- The state of the source TRACE_STOPPED. -/
abbrev State.stopSource (s : State) : SourceState := s.events.sources[EventSource.traceStopped.index]

/-- What becomes of a marker at the trace unit, from `s` to `t`, in every capture state: dropped where markers are disabled
and in OFF and STOPPED; recorded in CAPTURING, but for a full buffer in mode STOP, which stops capture; recorded in ARMED
without a trigger; recorded and counted in POST, where the record that brings post remaining to 0 stops capture. Capture
that stops raises TRACE_STOPPED with its reason and sequence number (R138 to R143). -/
abbrev State.marked (s t : State) (m : Marker) : Prop :=
  (s.trace.config.markers = false ∨ s.trace.state = .off ∨ s.trace.state = .stopped →
    t.trace = s.trace ∧ t.stopSource = s.stopSource) ∧
  (s.trace.config.markers = true → s.trace.records.length ≤ 512 →
    (s.trace.state = .capturing → s.trace.config.mode ≠ .stop ∨ s.trace.records.length < 512 →
      t.trace = s.trace.appended (.marker m s.timeBase) ∧ t.stopSource = s.stopSource) ∧
    (∀ last, s.trace.state = .capturing → s.trace.config.mode = .stop → s.trace.records.length = 512 →
      s.trace.records.getLast? = some last →
      t.trace = { s.trace with state := .stopped } ∧
      t.stopSource = s.stopSource.raised (BitVec.ofNat 32 (1 + 65536 * last.seq.toNat))) ∧
    (s.trace.state = .armed →
      t.trace = s.trace.appended (.marker m s.timeBase) ∧ t.stopSource = s.stopSource) ∧
    (s.trace.state = .post → 2 ≤ s.trace.postRemaining →
      t.trace = { s.trace.appended (.marker m s.timeBase) with postRemaining := s.trace.postRemaining - 1 } ∧
      t.stopSource = s.stopSource) ∧
    (s.trace.state = .post → s.trace.postRemaining = 1 →
      t.trace = { s.trace.appended (.marker m s.timeBase) with state := .stopped, postRemaining := 0 } ∧
      t.stopSource = s.stopSource.raised (BitVec.ofNat 32 (2 + 65536 * s.trace.seq.toNat))))

/-- What becomes of a marker that comes with the raise of `src`, from `s` to `t`: where that raise is the event trigger of
an armed trace unit, the trigger fires after the marker or before it (either order: R142, log 11); elsewhere the raise does
nothing at the trace unit. -/
abbrev State.markedWith (s t : State) (m : Marker) (src : EventSource) : Prop :=
  (s.trace.state ≠ .armed ∨ s.trace.config.source ≠ some src → s.marked t m) ∧
  (s.trace.state = .armed → s.trace.config.source = some src →
    (∃ u : State, s.marked u m ∧ t.trace = u.trace.triggered ∧ t.stopSource = u.stopSource) ∨
    State.marked { s with trace := s.trace.triggered } t m)

/-- What a commit's effect has done to the tables, the roles, the line store, the SCU, the events and the trace; which
table carries which role, and that every other block is as it was (R68, R69, R70). -/
abbrev State.commitTookEffect (s t : State) : Prop :=
  t.roles = { active := s.roles.staged, staged := s.roles.retained, retained := s.roles.active } ∧
  t.table .active = s.table .staged ∧ t.table .retained = s.table .active ∧ t.table .staged = Table.empty ∧
  s.store.tableReleased t.store (s.table .retained) ∧
  t.scu = { s.scu with state := .empty, commit := none, computedCrc := 0 } ∧
  t.events.sources[EventSource.commitResult.index] = s.events.sources[EventSource.commitResult.index].raised
    (BitVec.ofNat 32 (65536 * (s.table .staged).generation.toNat)) ∧
  (∀ i : Fin 14, i ≠ EventSource.commitResult.index → i ≠ EventSource.traceStopped.index →
    t.events.sources[i] = s.events.sources[i]) ∧
  t.events.inService = s.events.inService ∧
  s.markedWith t
    { kind := .commit, newGeneration := (s.table .staged).generation, oldGeneration := (s.table .active).generation,
      letter := s.roles.staged } .commitResult ∧
  t.regions = s.regions ∧ t.port = s.port ∧ t.timeBase = s.timeBase ∧ t.straps = s.straps ∧ t.inReset = s.inReset

/-- The state after a commit that found a bad line at its effect point (R67). -/
def State.commitFailed (s : State) : State :=
  (State.setTable { s with scu := { s.scu with state := .failed, commit := none } } .staged
    { s.table .staged with result := .badLine }).raise .commitResult
      (BitVec.ofNat 32 (1 + 65536 * (s.table .staged).generation.toNat))

/-- The detail of a load end report: stage, reason, generation (R87, R180). -/
def loadDetail (stage reason : Nat) (gen : Generation) : Word := BitVec.ofNat 32 (stage + 256 * reason + 65536 * gen.toNat)

/-- The state after the end of a start-up load: the loader in IDLE, and the hold of LOAD_HOLD lifted (R91, R92). -/
def State.startUpOver (s : State) : State :=
  { s with
    loader := { s.loader with state := .idle }
    hbi := { s.hbi with held := s.hbi.held && s.straps.mode != .loadHold } }

/-- The state after the end of a start-up load in stage COMMIT with a failure: START_FAILED, the loader in IDLE, and the
hold of LOAD_HOLD lifted (R87, R91, R92). -/
def State.startUpFailed (s : State) (reason : Nat) : State :=
  (s.raise .startFailed (loadDetail 3 reason (headerGeneration s.loader.header))).startUpOver

/-- The state after a load has failed in stage PARSE, with the line store as the discard of its entries leaves it: the
staged set EMPTY, then LOAD_RESULT of a command load or START_FAILED of a start-up load (R86, R87). -/
def State.parseFailed (s : State) (st : LineStore) (reason : ParseReason) (gen : Generation) : State :=
  let s1 := State.setTable { s with store := st, scu := { s.scu with state := .empty, computedCrc := 0 } } .staged Table.empty
  match s.loader.kind with
  | .command =>
    { s1.raise .loadResult (loadDetail 1 reason.code.toNat gen) with loader := { s.loader with state := .idle } }
  | .startUp => (s1.raise .startFailed (loadDetail 1 reason.code.toNat gen)).startUpOver

/-- The state after a pending commit has been withdrawn (R65, R66). -/
def State.withdrawn (s : State) : State := { s with scu := { s.scu with state := .verified, commit := none } }

/-- What a REVERT's effect point does: refused at the first bad line in slot order, or the two roles swapped (R74, R75). -/
abbrev State.revertOutcome (s t : State) (tag : Byte) : Prop :=
  (∀ (i : Slot) (e : Entry) (l : LineIdx), (s.table .retained).slots[i] = some e → e.storeLine = some l →
    s.store.lines[l].bad = true →
    (∀ (j : Slot) (f : Entry) (k : LineIdx), j < i → (s.table .retained).slots[j] = some f → f.storeLine = some k →
      s.store.lines[k].bad = false) →
    t = s.respond tag .badLine (leBytes 2 (s.table .retained).generation.toNat ++ [BitVec.ofNat 8 l.val])) ∧
  (¬ s.namesBadLine .retained →
    t.roles = { active := s.roles.retained, staged := s.roles.staged, retained := s.roles.active } ∧
    t.tables = s.tables ∧ t.store = s.store ∧ t.scu = s.scu ∧ t.loader = s.loader ∧ t.hbi = s.hbi ∧ t.port = s.port ∧
    t.regions = s.regions ∧ t.timeBase = s.timeBase ∧ t.straps = s.straps ∧ t.inReset = s.inReset ∧
    t.svp = (s.respond tag .ok (leBytes 2 (s.table .retained).generation.toNat ++
      leBytes 2 (s.table .active).generation.toNat)).svp ∧
    (∀ i : Fin 14, i ≠ EventSource.traceStopped.index → t.events.sources[i] = s.events.sources[i]) ∧
    t.events.inService = s.events.inService ∧
    s.marked t
      { kind := .revert, newGeneration := (s.table .retained).generation,
        oldGeneration := (s.table .active).generation, letter := s.roles.retained })

/-- The state after a verification that VERIFY_SET started has ended (R53). -/
def State.verifyDone (s : State) (res : VerifyResult) (crc : Word) : State :=
  (State.setTable
    { s with scu := { s.scu with
        state := if res = VerifyResult.ok then .verified else .failed, verifier := none, computedCrc := crc } } .staged
    { s.table .staged with result := res }).raise .verifyDone
      (BitVec.ofNat 32 (res.code.toNat + 65536 * (s.table .staged).generation.toNat))

/-- What a start-up commit does that is armed in state `s` (R59, R61, R91): behind a closed gate or a transaction it is
pending; otherwise it takes effect at once, or fails at a bad line and ends its load with START_FAILED. -/
def State.startUpCommitArmed (s u : State) (a : CommitArgs) : Prop :=
  (s.hbi.held = false → a.mode = .gated ∨ s.inFlight = true →
    u = { s with scu := { s.scu with
      state := .commitPending
      commit := some { args := a, requester := .startUp, gateOpen := false
                       deadline := if a.mode = .gated ∧ a.timeout ≠ 0 then
                           some (s.timeBase + BitVec.ofNat 32 (1000 * a.timeout.toNat))
                         else none } } }) ∧
  (s.hbi.held = true ∨ (a.mode = .atBoundary ∧ s.inFlight = false) →
    (s.namesBadLine .staged → u = s.commitFailed.startUpFailed 9) ∧
    (¬ s.namesBadLine .staged → s.roles.distinct → s.accounted →
      s.commitTookEffect u ∧ u.svp = s.svp ∧ u.loader = { s.loader with state := .idle } ∧
      u.hbi = { s.hbi with held := s.hbi.held && s.straps.mode != .loadHold }))

/-! ### The image header (R83) -/

/-- A header that passes every test of R83. -/
abbrev headerGood (h : List Byte) : Prop :=
  field h 0 4 = 0x3153505A ∧ byteAt h 4 = 1 ∧ field h 30 2 = (crc16 (h.take 30)).toNat ∧ (byteAt h 6).toNat ≤ 64 ∧
  field h 8 2 ≠ 0 ∧ byteAt h 7 = 0 ∧ byteAt h 15 = 0 ∧ field h 18 2 = 0 ∧ field h 26 4 = 0 ∧
  ((byteAt h 5 = 1 ∧ 1 ≤ field h 10 2 ∧ field h 10 2 ≤ 2048 ∧ field h 12 3 ≤ 0x7FFFFF ∧
      field h 12 3 + field h 10 2 ≤ 0x800000) ∨
    (byteAt h 5 = 0 ∧ field h 10 2 = 0 ∧ field h 12 3 = 0 ∧ field h 16 2 = 0))

/-! ### Beat by beat (R9 to R12, R116, R129) -/

/-- Word index of the beat after `done` beats (R7). -/
def Decision.idxAt (d : Decision) (done : Nat) : WordIdx := beatIdx (d.addr.toNat % 8) (beatCount d.len) done

/-- Mapped downstream address of the beat after `done` beats (R9, R100). -/
def Decision.addrAt (d : Decision) (done : Nat) : DownAddr :=
  BitVec.ofNat 26 (d.region.mapped (32 * (d.addr.toNat / 8) + 4 * (d.idxAt done).val))

/-- The state in which a transaction waits for its host access. -/
def State.waitsFor (s : State) (t : Txn) (q : PortRequest) : State :=
  { s with hbi := { s.hbi with state := .inFlight t }, port := s.port.request s.timeBase .host q }

/-- How a read goes on from `s` to `u` when the sources `bs` of its plan are still to be served: beats planned STORE on
unmarked lines with good words are strobed one after the other; then the transaction ends with its outcome, or the next
beat asks for its MEMORY or TARGET word, or falls back to memory at a marked line or a failing word, which marks the line
and raises LINE_FAULT (R9 to R12, R116). -/
def State.readGoesOn (s : State) (t : Txn) (bs : List BeatSource) (u : State) : Prop :=
  ∀ (ls : List LineIdx) (tail : List BeatSource) (w : State) (x : Txn),
    bs = ls.map .store ++ tail →
    (∀ (j : Nat) (l : LineIdx), ls[j]? = some l →
      s.store.lines[l].bad = false ∧ s.store.lines[l].words[t.dec.idxAt (t.done + j)].agrees = true) →
    x = { t with done := t.done + ls.length } →
    w = { s with hbi := { s.hbi with
      strobes := s.hbi.strobes ++ ls.zipIdx.map fun y =>
        { hrd := some s.store.lines[y.1].words[t.dec.idxAt (t.done + y.2)].data, hstb := true, herr := false
          hend := tail.isEmpty && y.2 + 1 == ls.length } } } →
    match tail with
    | [] =>
      u = w.endTransaction t.dec true
        (match s.matchedEntry t.dec with
          | none => .pass
          | some e => match e.body with
            | .substitute _ _ =>
              if t.fellBack then .fallback
              else if t.dec.plan.all fun b => match b with
                | .store _ => true
                | _ => false
              then .substituted
              else .merged
            | .redirect _ _ => .redirected
            | .watch _ _ => .watched) []
    | .memory :: _ => u = w.waitsFor x (readRequest t.dec.region.ce (t.dec.addrAt x.done) t.dec.region.wait)
    | .target ce target :: _ =>
      u = w.waitsFor x
        (readRequest ce (BitVec.ofNat 26 (32 * target.toNat + 4 * (t.dec.idxAt x.done).val)) t.dec.region.wait)
    | .store l :: _ =>
      (s.store.lines[l].bad = true →
        u = w.waitsFor { x with fellBack := true }
          (readRequest t.dec.region.ce (t.dec.addrAt x.done) t.dec.region.wait)) ∧
      (s.store.lines[l].bad = false → s.store.lines[l].words[t.dec.idxAt x.done].agrees = false →
        u = (State.raise { w with store := s.store.setLine l { s.store.lines[l] with bad := true } } .lineFault
            (BitVec.ofNat 32 l.val)).waitsFor { x with fellBack := true }
          (readRequest t.dec.region.ce (t.dec.addrAt x.done) t.dec.region.wait))

/-- How a forwarded write goes on from `s` to `u`: beats without a byte enable are strobed without an access; then the
transaction ends with its outcome, or the next beat asks for the write of its word (R14, R103, R116, R129). -/
def State.writeGoesOn (s : State) (t : Txn) (u : State) : Prop :=
  ∀ (skip tail : List WriteBeat) (w : State) (x : Txn),
    t.writes = skip ++ tail → (∀ b ∈ skip, b.enables = 0) →
    x = { t with done := t.done + skip.length, writes := tail } →
    w = { s with hbi := { s.hbi with
      strobes := s.hbi.strobes ++ (List.range skip.length).map fun j =>
        { hrd := none, hstb := true, herr := false, hend := tail.isEmpty && j + 1 == skip.length } } } →
    match tail with
    | [] =>
      u = w.endTransaction t.dec true
        (match s.matchedEntry t.dec with
          | none => .pass
          | some e => match e.body with
            | .watch _ _ => .watched
            | _ => .pass) []
    | b :: _ =>
      b.enables ≠ 0 →
        u = w.waitsFor x
          { ce := t.dec.region.ce, addr := t.dec.addrAt x.done, write := true, data := b.data, enables := b.enables,
            wait := t.dec.region.wait }

/-! ### The staged set and the agents that work on it (R39, R51, R59, R81) -/

/-- The set record that each staged-set state carries (R39, table). -/
def StagedState.recordFits (st : StagedState) (t : Table) : Prop :=
  match st with
  | .empty => t = Table.empty
  | .opened => t.generation = 0 ∧ t.expectedCrc = 0 ∧ t.result = .none
  | .loading => t.generation = 0 ∧ t.expectedCrc = 0 ∧ t.result = .none
  | .sealed => t.generation ≠ 0 ∧ t.result = .none
  | .verifying => t.generation ≠ 0 ∧ t.result = .none
  | .verified => t.generation ≠ 0 ∧ t.result = .ok
  | .failed => t.generation ≠ 0 ∧ t.result ≠ .none ∧ t.result ≠ .ok
  | .commitPending => t.generation ≠ 0 ∧ t.result = .ok

/-- The loader's state and the staged-set state belong together (R39, R81, R88, R91). -/
abbrev State.loaderFits (s : State) : Prop :=
  ((s.loader.state = .header ∨ s.loader.state = .body) ↔ s.scu.state = .loading) ∧
  (s.loader.state ≠ .idle → s.loader.state ≠ .header → headerTest s.loader.header = none) ∧
  (s.loader.state = .verify → s.scu.state = .verifying) ∧
  (s.loader.state = .commit → s.loader.kind = .startUp ∧ (s.scu.state = .commitPending ∨ s.scu.deferred.isSome)) ∧
  (s.startUpInHand → (s.table .active).generation = 0 ∧ (s.table .retained).generation = 0)

/-- A verification is in progress exactly in VERIFYING, at an entry still to pass, and the loader waits for it exactly
when it is chained from its load (R39, R51, R81). -/
abbrev State.verifierFits (s : State) : Prop :=
  (s.scu.verifier.isSome ↔ s.scu.state = .verifying) ∧
  (∀ v ∈ s.scu.verifier, v.passed < (s.table .staged).count) ∧
  (∀ v ∈ s.scu.verifier,
    v.starter = match s.loader.state with
      | .verify => (match s.loader.kind with
        | .command => VerifyStarter.commandLoad
        | .startUp => .startUpLoad)
      | _ => .verifySet)

/-- The items of a commit request are in range (R59). -/
abbrev CommitArgs.fits (a : CommitArgs) : Prop :=
  (a.mode = .atBoundary → a.gateBase = 0 ∧ a.gateLength = 0 ∧ a.timeout = 0) ∧
  (a.mode = .gated →
    1 ≤ a.gateLength ∧ a.gateLength ≤ 2048 ∧ a.gateBase.toNat + a.gateLength ≤ Config.hostLines)

/-- A pending commit exists exactly in COMMIT_PENDING; its items are in range; a start-up commit is the loader's; a
commit deferred behind a REVERT waits for that REVERT (R59, R73). -/
abbrev State.commitFits (s : State) : Prop :=
  (s.scu.commit.isSome ↔ s.scu.state = .commitPending) ∧
  (∀ pc ∈ s.scu.commit,
    (pc.requester = .startUp ↔ s.loader.state = .commit) ∧
    (s.table .active).generation < (s.table .staged).generation ∧ pc.args.fits ∧
    (pc.args.mode = .atBoundary → pc.deadline = none) ∧
    (pc.gateOpen → pc.args.mode = .gated ∧ pc.deadline = none)) ∧
  (s.scu.deferred.isSome → s.scu.state = .verified ∧ s.loader.state = .commit ∧ s.revertWaits) ∧
  (∀ a ∈ s.scu.deferred, a.fits) ∧
  (s.revertWaits → s.scu.state ≠ .commitPending ∧ s.scu.state ≠ .loading)

/-- The staged set, the loader, the verification and the pending commit belong together. -/
abbrev State.controlled (s : State) : Prop :=
  s.roles.distinct ∧ s.scu.state.recordFits (s.table .staged) ∧ s.loaderFits ∧ s.verifierFits ∧ s.commitFits

/-! ### The host side (R113, R115, R119) -/

/-- No transaction is in flight while the host is held (R113). -/
abbrev State.heldIdle (s : State) : Prop := s.hbi.held = true → s.inFlight = false

/-- The transaction in flight is served under the table that still carries ACTIVE; its matched entry is there with the
line its plan names, and a beat is still to come (R8, R15, R115, R116). -/
abbrev State.txnFits (s : State) : Prop :=
  match s.hbi.state with
  | .inFlight t =>
    t.dec.letter = s.roles.active ∧ t.dec.generation = (s.table .active).generation ∧
      t.done < beatCount t.dec.len ∧
      (t.dec.write = false → t.dec.plan.length = beatCount t.dec.len) ∧
      (∀ i ∈ t.dec.slot, ((s.table .active).slots[i]).isSome) ∧
      (∀ b ∈ t.dec.plan, ∀ l, b = .store l → ∃ e ∈ s.matchedEntry t.dec, e.storeLine = some l)
  | _ => True

/-! ### The memory port (R124, R131) -/

/-- A requester has a request at the port, waiting or in progress and not given up. -/
def MemPort.holds (p : MemPort) (who : Requester) : Bool :=
  (match who with
   | .host => p.host.isSome
   | .loader => p.loader.isSome
   | .verifier => p.verifier.isSome) ||
    p.access.any fun a => a.who == who && !a.givenUp

/-- A requester has at most one request at the port: none waits while its access is in progress (R124). -/
abbrev MemPort.single (p : MemPort) : Prop :=
  ∀ a ∈ p.access, a.givenUp = false →
    (match a.who with
     | .host => p.host
     | .loader => p.loader
     | .verifier => p.verifier) = none

/-- Every agent that waits for memory has its one request at the port, no other agent has one, and no request waits at a
FREE port (R124, R130, R131). -/
abbrev State.portFits (s : State) : Prop :=
  s.port.single ∧
  (s.port.access = none → s.port.host = none ∧ s.port.loader = none ∧ s.port.verifier = none) ∧
  (s.port.holds .host = s.inFlight) ∧
  (s.port.holds .loader = (s.scu.state == .loading)) ∧
  (s.port.holds .verifier = s.scu.verifier.isSome)

/-- All of the above. -/
structure State.wf (s : State) : Prop where
  controlled : s.controlled
  keyed      : s.tables.a.keyed ∧ s.tables.b.keyed ∧ s.tables.c.keyed
  accounted  : s.accounted
  heldIdle   : s.heldIdle
  txnFits    : s.txnFits
  portFits   : s.portFits

/-! ### The end of a body and the walk of a verification (R51, R52, R85) -/

/-- What becomes of a load whose last record has been placed in state `s` (R85): LENGTH_MISMATCH, or the set is SEALED from
the header and its chained verification starts. -/
def State.bodyEnds (s : State) (result : Result) : Prop :=
  (s.loader.sum ≠ field s.loader.header 24 2 → s.accounted →
    ∃ st : LineStore, s.store.tableReleased st (s.table .staged) ∧
      result = .next (s.parseFailed st .lengthMismatch (headerGeneration s.loader.header))) ∧
  (s.loader.sum = field s.loader.header 24 2 →
    result = .next (State.startVerification
      (State.setTable
        { s with
          scu := { s.scu with state := .sealed, computedCrc := 0 }
          loader := { s.loader with state := .verify } } .staged
        { slots := (s.table .staged).slots, generation := BitVec.ofNat 16 (field s.loader.header 8 2),
          expectedCrc := BitVec.ofNat 32 (field s.loader.header 20 4), result := .none })
      (match s.loader.kind with
        | .command => .commandLoad
        | .startUp => .startUpLoad)))

/-- An entry passes the walk without a memory-side access: no origin check, and its line unmarked with every masked word
good (R51). -/
abbrev State.passesWalk (s : State) (e : Entry) : Prop :=
  e.origin = none ∧ ∀ mask l, e.body = .substitute mask l → s.store.lines[l].bad = false ∧
    ∀ i : WordIdx, mask.getLsbD i.val = true → s.store.lines[l].words[i].agrees = true

/-- How a verification in progress goes on from `s` to `u` when it has passed `passed` entries, the entries `todo` are to be
visited and the CRC-32 register holds `crc`: over the entries that pass, to the end with the set CRC, to BAD_LINE at a marked
line or a failing word (which marks the line and raises LINE_FAULT), or to the first origin word of an entry with an origin
check, whose read is requested, or which is unreadable where its address is BLOCKED (R51, R52). -/
def State.walkGoesOn (s : State) (starter : VerifyStarter) (passed : Nat) (todo : List (Slot × Entry)) (crc : Word)
    (u : State) : Prop :=
  ∀ (pre tail : List (Slot × Entry)), todo = pre ++ tail → (∀ x ∈ pre, s.passesWalk x.2) →
    match tail with
    | [] =>
      ∀ c, c = crc32Final (crc32Feed crc (pre.flatMap fun x => s.entryBytes x.2)) →
        u = State.endVerification { s with scu := { s.scu with computedCrc := c } }
          (if c = (s.table .staged).expectedCrc then .ok else .crcMismatch)
    | x :: _ =>
      (∀ mask l, x.2.body = .substitute mask l →
        (s.store.lines[l].bad = true → u = s.endVerification .badLine) ∧
        (s.store.lines[l].bad = false →
          (∃ i : WordIdx, mask.getLsbD i.val = true ∧ s.store.lines[l].words[i].agrees = false) →
          u = (State.raise { s with store := s.store.setLine l { s.store.lines[l] with bad := true } } .lineFault
            (BitVec.ofNat 32 l.val)).endVerification .badLine)) ∧
      (x.2.origin.isSome → s.passesWalk { x.2 with origin := none } →
        ∀ c, c = s.regions.classify (32 * x.2.line.toNat) →
          (c.kind = .blocked → u = s.endVerification .originUnreadable) ∧
          (c.kind ≠ .blocked →
            ∀ reg, reg = crc32Feed crc ((pre ++ [x]).flatMap fun y => s.entryBytes y.2) →
            u = { s with
              scu := { s.scu with
                verifier := some { starter := starter, passed := passed + pre.length, origin := [], crc := reg } }
              port := s.port.request s.timeBase .verifier
                (readRequest c.ce (BitVec.ofNat 26 (c.mapped (32 * x.2.line.toNat))) c.wait) }))

/-! ### Timers (R65, R127) -/

/-- No timer has run past its end: the count of the access in progress has not passed its ready timeout, and what is left
to the deadline of the pending commit is at most its gate timeout (R65, R127). -/
abbrev State.timersFit (s : State) : Prop :=
  (∀ a ∈ s.port.access, a.timeout ≠ 0 → a.steps ≤ a.timeout.toNat) ∧
  ∀ pc ∈ s.scu.commit, ∀ d ∈ pc.deadline, (d - s.timeBase).toNat ≤ 1000 * pc.args.timeout.toNat

/-! ### Select periods (R162 to R167) -/

/-- The bytes of a period leave its request undecided: a poll, or a request frame not yet complete whose length byte, if
it has come, is 56 or less (R163, R164). -/
abbrev undecidedBytes (bs : List Byte) : Prop :=
  bs.headD 0 = 0 ∨
    (bs.headD 0 = 0xA5 ∧
      (bs.length < 4 ∨ ((byteAt bs 3).toNat ≤ 56 ∧ bs.length < 6 + (byteAt bs 3).toNat)))

/-- What the out side has come to once `n` bytes of the period have been clocked: from byte 4 on the header is out and a
reset-seen flag that it carried is cleared; from its last byte on a response still in the queue has left it with its
partial mark (R166, R167). -/
def ServicePort.clockedOut (p : ServicePort) (n : Nat) : ServicePort :=
  match p.out with
  | none => p
  | some o =>
    let gone := o.live && o.response.any fun r => decide (10 + r.payload.length ≤ n)
    { p with
      out := some { o with headerSent := o.headerSent || decide (4 ≤ n), live := o.live && !gone }
      resetSeen := p.resetSeen && !(o.header.resetSeen && !o.headerSent && decide (4 ≤ n))
      responses := if gone then p.responses.tail else p.responses
      partialMark := p.partialMark && !gone }

/-- The out side and the request side of a period are as its bytes so far have brought them: the header is out from byte 4
on, a live response is the oldest of the queue and not yet out, and a request still undecided is one that its bytes leave
undecided (R163 to R167). -/
abbrev State.periodFits (s : State) : Prop :=
  (s.inReset = false → s.svp.ssLow = true → s.svp.ignoring = false → s.svp.out.isSome) ∧
  ∀ o ∈ s.svp.out,
    (o.headerSent = decide (4 ≤ s.svp.shifter.length)) ∧
    (o.live = true → ∃ r, o.response = some r ∧ s.svp.responses.head? = some r ∧
      s.svp.shifter.length < 10 + r.payload.length) ∧
    (s.svp.decided = false → undecidedBytes s.svp.shifter)

/-! ### Regions (R97) -/

/-- A region record as R97 has it. -/
abbrev RegionRecord.fits (r : RegionRecord) : Prop :=
  r.base.toNat % r.size = 0 ∧ r.offset.toNat % 4096 = 0 ∧
    (r.kind ≠ .blocked → r.offset.toNat + r.size ≤ Config.downstreamSize)

/-! ### Trace, events and service port (R139, R150, R153, R161, R165) -/

/-- A trace configuration whose fields hold their values (R144). -/
abbrev TraceConfig.valid (c : TraceConfig) : Prop :=
  1 ≤ c.post ∧ c.post ≤ 512 ∧ c.source ≠ some .traceStopped ∧ (∀ w ∈ c.window, w.1 ≤ w.2) ∧
    (c.mode = .triggered → c.window ≠ none ∨ c.source ≠ none)

/-- The eighteen bytes of a trace configuration in TRACE_CONFIGURE (R183). -/
def TraceConfig.bytes (c : TraceConfig) : List Byte :=
  [c.mode.code, flagBits [c.dirRead, c.dirWrite], flagBits [c.kindFetch, c.kindData]] ++ leBytes 2 c.outcomes.toNat ++
  [flagBits [c.markers, c.window.isSome], BitVec.ofNat 8 ((c.source.map EventSource.number).getD 0), 0] ++
  leBytes 2 c.post ++ leBytes 3 ((c.window.map fun w => w.1.toNat).getD 0) ++ [0] ++
  leBytes 3 ((c.window.map fun w => w.2.toNat).getD 0) ++ [0]

/-- At most 512 records, whose sequence numbers run consecutively up to the counter (R139). -/
abbrev TraceUnit.fits (t : TraceUnit) : Prop :=
  t.records.length ≤ Config.traceCapacity ∧
    t.records.map (fun r => r.seq) =
      (List.range t.records.length).map fun i => t.seq - BitVec.ofNat 16 (t.records.length - i)

/-- The fixed sources are on at level 4, the others have a level of 1 to 3, and the levels in service, latest first, fall
strictly from at most 4 to at least 1 (R150, R153). -/
abbrev EventUnit.fits (e : EventUnit) : Prop :=
  (∀ i : Fin 14, 12 ≤ i.val → e.sources[i].enable = true ∧ e.sources[i].level = 4) ∧
  (∀ i : Fin 14, i.val < 12 → 1 ≤ e.sources[i].level ∧ e.sources[i].level ≤ 3) ∧
  e.inService.Pairwise (fun a b => b < a) ∧ (∀ l ∈ e.inService, 1 ≤ l ∧ l ≤ 4)

/-- At most four commands wait, and commands, the executing command and responses number at most eight together (R161,
R165). -/
abbrev ServicePort.fits (p : ServicePort) : Prop :=
  p.commands.length ≤ Config.commandCapacity ∧
    p.responses.length + p.commands.length + (if p.executing.isSome then 1 else 0) ≤ Config.portCapacity

end Sys2Proof.Machine
end

