-- ==== Sys2Proof/Certificates/Slice0/Obligations.lean ====
section
/-! DEFINITION. The statements about the part, for the provers. -/

section

open Sys2Proof Sys2Proof.Machine

/-! ### The queue of the model, resets, the time base -/

/-- One step takes the command at the front of the model's queue and runs it on the state with the queue's rest; on an
empty queue the block idles (the model's choice: log 1). -/
def Obligations.StepRunsFrontCommand : Prop :=
  (∀ (c : Instr) (s : State) (rest : List Instr),
    step { s with pending := c :: rest } = exec c { s with pending := rest }) ∧
  ∀ s : State, s.pending = [] → step s = .next s

/-- No command touches the model's queue of waiting commands (log 1), and none but the end of pin reset changes the
latched straps. -/
def Obligations.CommandsKeepQueueAndStraps : Prop :=
  ∀ (c : Instr) (s t : State), exec c s = .next t →
    t.pending = s.pending ∧ ((∀ b k, c ≠ .pinResetEnd b k) → t.straps = s.straps)

/-- RESETn low: the transaction, the accesses, the waiting requests, the commit and every pending event are gone, ALERTn
is released, and the words of the line store stay (that the blocks already hold their reset values while RESETn is low
is the model's choice: log 20). The end of pin reset: the straps are latched, every block has its reset values, and the
start-up behaviour begins: held in modes 1 and 3, a start-up load from the slot of IMGSEL in modes 1 and 2. -/
def Obligations.PinResetAndItsEnd : Prop :=
  (∀ s : State, ∃ t, exec .pinReset s = .next t ∧
    t.inReset = true ∧ t.alertLow = false ∧ t.straps = s.straps ∧ t.pending = s.pending ∧
    t.hbi.state = .idle ∧ t.hbi.nextRequest = none ∧ t.hbi.strobes = s.hbi.strobes ∧
    t.port = MemPort.reset ∧ t.scu = Scu.reset ∧ t.events = EventUnit.reset ∧ t.trace = TraceUnit.reset ∧
    t.svp.commands = [] ∧ t.svp.executing = none ∧ t.svp.responses = [] ∧
    ∀ l : LineIdx, t.store.lines[l].words = s.store.lines[l].words) ∧
  ∀ (s : State) (b k : BitVec 2), s.inReset = true → ∃ t, exec (.pinResetEnd b k) s = .next t ∧
    t.inReset = false ∧ t.straps.imgSel = k ∧ t.straps.mode.code.toNat = b.toNat ∧ t.timeBase = 0 ∧
    t.roles = { active := .a, staged := .b, retained := .c } ∧
    (∀ r, t.table r = Table.empty) ∧
    t.regions = RegionTable.reset ∧ t.trace = TraceUnit.reset ∧ t.events = EventUnit.reset ∧ t.alertLow = false ∧
    t.store.freeList = List.finRange 256 ∧ t.store.badList = [] ∧ t.store.threshold = 0 ∧
    (∀ l : LineIdx, t.store.lines[l] = { s.store.lines[l] with refCount := 0, bad := false }) ∧
    t.svp.commands = [] ∧ t.svp.executing = none ∧ t.svp.responses = [] ∧ t.svp.resetSeen = true ∧
    t.svp.lastVerdict = .poll ∧ t.svp.lastTag = 0 ∧ t.svp.ssLow = s.svp.ssLow ∧ t.svp.ignoring = s.svp.ssLow ∧
    t.port.timeout0 = 50 ∧ t.port.timeout1 = 50 ∧
    t.hbi.state = .idle ∧ (t.hbi.held = true ↔ b = 1 ∨ b = 3) ∧
    t.scu.commit = none ∧ t.scu.verifier = none ∧ t.scu.computedCrc = 0 ∧
    (if b = 1 ∨ b = 2 then
      t.scu.state = .loading ∧ t.loader.state = .header ∧ t.loader.kind = .startUp ∧ t.loader.ce = .ce0 ∧
      t.loader.cursor.toNat = 0x00F00000 + k.toNat * 0x1000 ∧
      t.port.access.map (fun a => (a.who, a.req)) = some (.loader, readRequest .ce0 t.loader.cursor 15)
    else t.scu.state = .empty ∧ t.loader.state = .idle ∧ t.port.access = none)

/-- The service reset at its boundary: every block returns to its reset values and the latched mode's start-up behaviour
runs again; the straps, the transaction state, the receive shifter, the last verdict and tag are kept, and an access in
progress runs on for no one. -/
def Obligations.ServiceResetAtBoundary : Prop :=
  ∀ s : State, s.inReset = false → s.inFlight = false → s.serviceResetDue = true →
    ∃ t, exec .serviceReset s = .next t ∧
    t.straps = s.straps ∧ t.timeBase = 0 ∧ t.roles = { active := .a, staged := .b, retained := .c } ∧
    (∀ r, t.table r = Table.empty) ∧ t.regions = RegionTable.reset ∧ t.trace = TraceUnit.reset ∧
    t.events = EventUnit.reset ∧ t.alertLow = false ∧
    t.store.freeList = List.finRange 256 ∧ t.store.badList = [] ∧ t.store.threshold = 0 ∧
    (∀ l : LineIdx, t.store.lines[l] = { s.store.lines[l] with refCount := 0, bad := false }) ∧
    t.hbi.state = s.hbi.state ∧ (t.hbi.held = true ↔ s.straps.mode = .loadHold ∨ s.straps.mode = .hold) ∧
    t.svp.commands = [] ∧ t.svp.executing = none ∧ t.svp.responses = [] ∧ t.svp.resetSeen = true ∧
    t.svp.partialMark = false ∧ t.svp.shifter = s.svp.shifter ∧
    t.svp.lastVerdict = s.svp.lastVerdict ∧ t.svp.lastTag = s.svp.lastTag ∧
    t.svp.out.map (fun o => (o.header, o.response)) = s.svp.out.map (fun o => (o.header, o.response)) ∧
    t.scu.commit = none ∧ t.scu.verifier = none ∧ t.port.timeout0 = 50 ∧ t.port.timeout1 = 50 ∧
    (∀ a, s.port.access = some a → t.port.access = some { a with givenUp := true }) ∧
    (if s.straps.mode = .loadHold ∨ s.straps.mode = .loadPass then
      t.scu.state = .loading ∧ t.loader.state = .header ∧ t.loader.kind = .startUp ∧
      t.loader.cursor.toNat = 0x00F00000 + s.straps.imgSel.toNat * 0x1000 ∧
      (s.port.access = none →
        t.port.access.map (fun a => (a.who, a.req)) = some (.loader, readRequest .ce0 t.loader.cursor 15)) ∧
      (s.port.access ≠ none → t.port.loader = some (readRequest .ce0 t.loader.cursor 15))
    else t.scu.state = .empty ∧ t.loader.state = .idle ∧ t.port.host = none ∧ t.port.loader = none ∧
      t.port.verifier = none)

/-- A step of the time base always advances the counter by 1, with wrap. With no expiry due the access in progress counts
the step and nothing else changes; an expiry that is due comes about before the step, as its own command would bring it,
so that no timer runs past its end (that it is a command of its own before that: log 9). -/
def Obligations.TimeBaseStepCounts : Prop :=
  ∀ s : State, s.inReset = false →
    (∃ t, exec .timeBaseStep s = .next t ∧ t.timeBase = s.timeBase + 1) ∧
    ((∀ pc ∈ s.scu.commit, pc.deadline ≠ some s.timeBase) →
      (∀ a ∈ s.port.access, a.timeout = 0 ∨ a.steps ≠ a.timeout.toNat) →
      exec .timeBaseStep s =
        .next { s with
          timeBase := s.timeBase + 1
          port := { s.port with access := s.port.access.map fun a => { a with steps := a.steps + 1 } } }) ∧
    (∀ t, exec .gateTimerExpiry s = .next t → exec .timeBaseStep s = exec .timeBaseStep t) ∧
    ((∀ pc ∈ s.scu.commit, pc.deadline ≠ some s.timeBase) →
      ∀ t, exec .accessExpiry s = .next t → exec .timeBaseStep s = exec .timeBaseStep t)

/-! ### Host requests, acceptance, beats -/

/-- HREQ sampled high moves IDLE to WAITING; HREQ falling before acceptance moves WAITING to IDLE; while a transaction is
in flight the request stays at the pins until its end (how: log 13). Effects wait for a boundary, and acceptance waits
while the host is held or an effect is due. -/
def Obligations.RequestsAndEffectsWait : Prop :=
  ((∀ (s : State) (r : HostRequest), s.inReset = false → s.hbi.state = .idle →
    exec (.hostRequest r) s = .next { s with hbi := { s.hbi with state := .waiting r } }) ∧
  (∀ (s : State) (r : HostRequest) (t : Txn), s.inReset = false → s.hbi.state = .inFlight t →
    exec (.hostRequest r) s = .next { s with hbi := { s.hbi with nextRequest := some r } }) ∧
  ∀ (s : State) (r : HostRequest), s.inReset = false → s.hbi.state = .waiting r →
    exec .requestWithdrawn s = .next { s with hbi := { s.hbi with state := .idle } }) ∧
  (∀ s : State, s.inFlight = true →
    exec .effectPoint s = .next s ∧ exec .revertEffect s = .next s ∧ exec .serviceReset s = .next s) ∧
  ∀ (s : State) (us : List Upset),
    s.hbi.held = true ∨ s.commitDue = true ∨ s.svp.executing.isSome = true → exec (.acceptance us) s = .next s

/-- The beats of a transaction run through the naturally aligned group that holds the addressed word, from that word on,
wrapping at the group's end; and beat k + 1 has the index of the rule's formula. -/
def Obligations.BeatsInWrapOrder : Prop :=
  ∀ n ∈ [1, 2, 4, 8], ∀ a < 8, ∀ j < n,
    (beatIdx a n 0).val = a ∧
    (beatIdx a n j).val / n = a / n ∧
    (j + 1 < n →
      (beatIdx a n (j + 1)).val =
        if ((beatIdx a n j).val + 1) % n = 0 then a - a % n else (beatIdx a n j).val + 1) ∧
    (beatIdx a n j).val = (a - a % n) + (a - (a - a % n) + j) % n

/-- The decision record formed at acceptance: the classification as it stands, the active table and generation, the slot
of the entry with the line number in a PATCHABLE region and none otherwise, and for a read one source for each beat by
the matched entry's kind. -/
def Obligations.DecisionRecordFormed : Prop :=
  ∀ (s : State) (r : HostRequest),
    (s.decisionFor r).addr = r.addr ∧ (s.decisionFor r).write = r.write ∧ (s.decisionFor r).len = r.len ∧
    ((s.decisionFor r).fetch = true ↔ r.fetch = true ∧ r.write = false) ∧
    (s.decisionFor r).region = s.regions.classify (4 * r.addr.toNat) ∧
    (s.decisionFor r).letter = s.roles.active ∧ (s.decisionFor r).generation = (s.table .active).generation ∧
    ((s.regions.classify (4 * r.addr.toNat)).kind ≠ .patchable → (s.decisionFor r).slot = none) ∧
    (∀ i, (s.decisionFor r).slot = some i →
      ∃ e, (s.table .active).slots[i] = some e ∧ e.line.toNat = 4 * r.addr.toNat / 32) ∧
    ((s.regions.classify (4 * r.addr.toNat)).kind = .patchable → (s.decisionFor r).slot = none →
      ∀ (i : Slot) (e : Entry), (s.table .active).slots[i] = some e → e.line.toNat ≠ 4 * r.addr.toNat / 32) ∧
    (r.write = true → (s.decisionFor r).plan = []) ∧
    (r.write = false → (s.decisionFor r).plan.length = 2 ^ r.len.toNat ∧
      ∀ j < 2 ^ r.len.toNat, (s.decisionFor r).plan[j]? = some
        (match s.matchedEntry (s.decisionFor r) with
         | none => .memory
         | some e =>
           match e.body with
           | .substitute mask l =>
             if mask.getLsbD (beatIdx (r.addr.toNat % 8) (2 ^ r.len.toNat) j).val then .store l else .memory
           | .redirect ce target => .target ce target
           | .watch _ _ => .memory))

/-- A transaction classified BLOCKED is refused at its first beat: ERROR, no beat, no memory-side access, no hit, and
ACCESS_REFUSED with the address. A write under REFUSE ends the same way; what its match counts and raises is in
EndOfTransaction. -/
def Obligations.BlockedAndRefusedEndAtFirstBeat : Prop :=
  ∀ (s : State) (r : HostRequest) (us : List Upset), s.inReset = false → s.hbi.state = .waiting r →
    s.hbi.held = false → s.effectDue = false →
    ((s.regions.classify (4 * r.addr.toNat)).kind = .blocked ∨
      (r.write = true ∧ (s.regions.classify (4 * r.addr.toNat)).policy = .refuse)) →
    ∃ t, exec (.acceptance us) s = .next t ∧
      t.hbi.state = (match s.hbi.nextRequest with
        | none => .idle
        | some q => .waiting q) ∧
      t.hbi.strobes = [{ hrd := some 0, hstb := false, hend := true, herr := true }] ∧
      t.port = s.port ∧ t.store = s.store.upset us ∧ t.roles = s.roles ∧ t.scu = s.scu ∧ t.regions = s.regions ∧
      t.loader = s.loader ∧ t.svp = s.svp ∧
      t = State.endTransaction
        { s with
          store := s.store.upset us
          hbi := { s.hbi with
            strobes := []
            state := .inFlight { dec := s.decisionFor r, done := 0, fellBack := false, writes := r.writes } } }
        (s.decisionFor r) false
        (if (s.regions.classify (4 * r.addr.toNat)).kind = .blocked then .blocked else .refused) [] ∧
      t.events.sources[EventSource.accessRefused.index] =
        s.events.sources[EventSource.accessRefused.index].raised (BitVec.ofNat 32 (4 * r.addr.toNat)) ∧
      ((s.regions.classify (4 * r.addr.toNat)).kind = .blocked →
        t.tables = s.tables ∧ t.events.inService = s.events.inService ∧
        ∀ i : Fin 14, i ≠ EventSource.accessRefused.index → i ≠ EventSource.traceStopped.index →
          t.events.sources[i] = s.events.sources[i])

/-- A read accepted while the port is FREE whose first beat is planned MEMORY or TARGET: the transaction is in flight with
its decision record, and the access to that word starts, with the region's wait states and the chip enable's ready
timeout; the line store is as its disturbances leave it (log 6) and everything else is as it was. -/
def Obligations.ReadAsksForItsFirstWord : Prop :=
  ∀ (s : State) (r : HostRequest) (us : List Upset) (b : BeatSource) (bs : List BeatSource) (q : PortRequest),
    s.inReset = false → s.hbi.state = .waiting r → s.hbi.held = false → s.effectDue = false →
    (s.regions.classify (4 * r.addr.toNat)).kind ≠ .blocked → r.write = false →
    (s.decisionFor r).plan = b :: bs → s.port.access = none →
    (match b with
     | .memory => q = readRequest (s.regions.classify (4 * r.addr.toNat)).ce
         (BitVec.ofNat 26 ((s.regions.classify (4 * r.addr.toNat)).mapped (4 * r.addr.toNat)))
         (s.regions.classify (4 * r.addr.toNat)).wait
     | .target ce target => q = readRequest ce (BitVec.ofNat 26 (32 * target.toNat + 4 * (r.addr.toNat % 8)))
         (s.regions.classify (4 * r.addr.toNat)).wait
     | .store _ => False) →
    exec (.acceptance us) s =
      .next { s with
        store := s.store.upset us
        hbi := { s.hbi with
          strobes := []
          state := .inFlight { dec := s.decisionFor r, done := 0, fellBack := false, writes := r.writes } }
        port := { s.port with
          access := some { who := .host, givenUp := false, req := q, timeout := s.port.timeoutOf q.ce,
                           start := s.timeBase, steps := 0 } } }

/-- A read whose first beat is planned STORE, at its first beat: with the line unmarked and the word good, a one-beat read
ends OKAY with the word and without a memory-side access; with the word bad, the line is marked, LINE_FAULT raised and the
beat falls back; with the line already marked, it falls back without a raise. And every read that is not BLOCKED is served
beat by beat from its acceptance to its end or its first memory-side access (in one step: log 16). -/
def Obligations.StoreBeatServedOrFallsBack : Prop :=
  (∀ (s : State) (r : HostRequest) (us : List Upset) (l : LineIdx) (bs : List BeatSource) (line : StoreLine)
    (w : StoreWord),
    s.inReset = false → s.hbi.state = .waiting r → s.hbi.held = false → s.effectDue = false →
    (s.regions.classify (4 * r.addr.toNat)).kind ≠ .blocked → r.write = false →
    (s.decisionFor r).plan = .store l :: bs →
    (s.store.upset us).lines[l] = line → line.words[(⟨r.addr.toNat % 8, by omega⟩ : WordIdx)] = w →
    ∃ t, exec (.acceptance us) s = .next t ∧ t.roles = s.roles ∧ t.regions = s.regions ∧ t.svp = s.svp ∧
      t.scu.state = s.scu.state ∧ t.loader = s.loader ∧
      (line.bad = false → w.agrees = true → bs = [] →
        t.port = s.port ∧ t.store = s.store.upset us ∧ t.inFlight = false ∧
        t.hbi.strobes = [{ hrd := some w.data, hstb := true, hend := true, herr := false }] ∧
        t = State.endTransaction
          { s with
            store := s.store.upset us
            hbi := { s.hbi with
              strobes := [{ hrd := some w.data, hstb := true, hend := true, herr := false }]
              state := .inFlight { dec := s.decisionFor r, done := 0, fellBack := false, writes := r.writes } } }
          (s.decisionFor r) true .substituted []) ∧
      (line.bad = true ∨ w.agrees = false →
        t.inFlight = true ∧ t.hbi.strobes = [] ∧ t.tables = s.tables ∧
        t.port = s.port.request s.timeBase .host
          (readRequest (s.regions.classify (4 * r.addr.toNat)).ce
            (BitVec.ofNat 26 ((s.regions.classify (4 * r.addr.toNat)).mapped (4 * r.addr.toNat)))
            (s.regions.classify (4 * r.addr.toNat)).wait)) ∧
      (line.bad = true → t.store = s.store.upset us ∧ t.events = s.events) ∧
      (line.bad = false → w.agrees = false →
        t.store = (s.store.upset us).setLine l { line with bad := true } ∧
        t.events = s.events.raise .lineFault (BitVec.ofNat 32 l.val))) ∧
  ∀ (s : State) (r : HostRequest) (us : List Upset) (x : Txn),
    s.inReset = false → s.hbi.state = .waiting r → s.hbi.held = false → s.effectDue = false →
    (s.regions.classify (4 * r.addr.toNat)).kind ≠ .blocked → r.write = false →
    x = { dec := s.decisionFor r, done := 0, fellBack := false, writes := r.writes } →
    ∃ t, exec (.acceptance us) s = .next t ∧
      State.readGoesOn
        { s with store := s.store.upset us, hbi := { s.hbi with strobes := [], state := .inFlight x } } x
        (s.decisionFor r).plan t

/-- A write under DISCARD takes every beat and ends OKAY without a memory-side access; a forwarded write whose first beat
has a byte enable asks for the write of that word with its data and enables; and every forwarded write takes its first
beats without a byte enable at once, up to its end or its first memory-side access (in one step: log 16). -/
def Obligations.WritesByPolicy : Prop :=
  ∀ (s : State) (r : HostRequest) (us : List Upset),
    s.inReset = false → s.hbi.state = .waiting r → s.hbi.held = false → s.effectDue = false →
    (s.regions.classify (4 * r.addr.toNat)).kind ≠ .blocked → r.write = true → r.wellFormed = true →
    ((s.regions.classify (4 * r.addr.toNat)).policy = .discard →
      ∃ t, exec (.acceptance us) s = .next t ∧ t.port = s.port ∧ t.inFlight = false ∧ t.store = s.store.upset us ∧
        t.roles = s.roles ∧ t.regions = s.regions ∧ t.svp = s.svp ∧
        t.hbi.strobes.length = 2 ^ r.len.toNat ∧
        (∀ j < 2 ^ r.len.toNat, t.hbi.strobes[j]? =
          some { hrd := none, hstb := true, hend := j + 1 == 2 ^ r.len.toNat, herr := false }) ∧
        t = State.endTransaction
          { s with
            store := s.store.upset us
            hbi := { s.hbi with
              strobes := t.hbi.strobes
              state := .inFlight { dec := s.decisionFor r, done := 0, fellBack := false, writes := r.writes } } }
          (s.decisionFor r) true .discarded []) ∧
    (∀ (w : WriteBeat) (ws : List WriteBeat),
      (s.regions.classify (4 * r.addr.toNat)).policy = .forward → r.writes = w :: ws → w.enables ≠ 0 →
      exec (.acceptance us) s =
        .next { s with
          store := s.store.upset us
          hbi := { s.hbi with
            strobes := []
            state := .inFlight { dec := s.decisionFor r, done := 0, fellBack := false, writes := r.writes } }
          port := s.port.request s.timeBase .host
            { ce := (s.regions.classify (4 * r.addr.toNat)).ce
              addr := BitVec.ofNat 26 ((s.regions.classify (4 * r.addr.toNat)).mapped (4 * r.addr.toNat))
              write := true, data := w.data, enables := w.enables
              wait := (s.regions.classify (4 * r.addr.toNat)).wait } }) ∧
    ((s.regions.classify (4 * r.addr.toNat)).policy = .forward →
      ∀ x : Txn, x = { dec := s.decisionFor r, done := 0, fellBack := false, writes := r.writes } →
      ∃ t, exec (.acceptance us) s = .next t ∧
        State.writeGoesOn
          { s with store := s.store.upset us, hbi := { s.hbi with strobes := [], state := .inFlight x } } x t)

/-- What the end of a transaction counts and raises: a counted hit adds 1 to the matched slot, up to 65535, and changes no
other slot, table, role, register or queue; FIRST_HIT, WATCH_REACHED, WRITE_UNDER_PATCH and ACCESS_REFUSED are raised
exactly when due, beside the DOWNSTREAM_TIMEOUT of an access whose failure ends the transaction, and no other source but
TRACE_STOPPED can change; the end report reaches the trace unit (where its order with a raise does not show); a request
that HREQ still presents is then waiting. -/
def Obligations.EndOfTransaction : Prop :=
  ∀ (s t : State) (d : Decision) (okay : Bool) (outcome : TxnOutcome) (before : List (EventSource × Word)),
    (before = [] ∨ ∃ detail, before = [(.downstreamTimeout, detail)]) →
    t = s.endTransaction d okay outcome before →
    t.hbi = { s.hbi with
      state := match s.hbi.nextRequest with
        | none => .idle
        | some q => .waiting q
      nextRequest := none
      strobes := if okay then s.hbi.strobes
        else s.hbi.strobes ++ [{ hrd := some 0, hstb := false, hend := true, herr := true }] } ∧
    t.roles = s.roles ∧ t.store = s.store ∧ t.port = s.port ∧ t.regions = s.regions ∧ t.loader = s.loader ∧
    t.svp = s.svp ∧ t.timeBase = s.timeBase ∧ t.straps = s.straps ∧ t.inReset = s.inReset ∧
    t.scu = { s.scu with commit := t.scu.commit } ∧ t.events.inService = s.events.inService ∧
    (s.trace.state ≠ .armed ∨ s.trace.config.source = none → ∀ report : EndReport,
      report =
        { addr := d.addr, write := d.write, fetch := d.fetch, len := d.len, region := d.region.record,
          trace := d.region.trace, slot := d.slot, generation := d.generation, outcome := outcome, time := s.timeBase
          underPatch := d.write && (match s.matchedEntry d with
            | none => false
            | some e => match e.body with
              | .watch _ _ => false
              | _ => true) } →
      t.trace = (s.traceReport report).trace) ∧
    (∀ i : Fin 14, i ∉ [EventSource.firstHit.index, EventSource.watchReached.index, EventSource.writeUnderPatch.index,
        EventSource.accessRefused.index, EventSource.downstreamTimeout.index, EventSource.traceStopped.index] →
      t.events.sources[i] = s.events.sources[i]) ∧
    (before = [] →
      t.events.sources[EventSource.downstreamTimeout.index] = s.events.sources[EventSource.downstreamTimeout.index]) ∧
    (∀ detail, before = [(.downstreamTimeout, detail)] →
      t.events.sources[EventSource.downstreamTimeout.index] =
        s.events.sources[EventSource.downstreamTimeout.index].raised detail) ∧
    (t.events.sources[EventSource.accessRefused.index] =
      if outcome = .blocked ∨ outcome = .refused then
        s.events.sources[EventSource.accessRefused.index].raised (BitVec.ofNat 32 (4 * d.addr.toNat))
      else s.events.sources[EventSource.accessRefused.index]) ∧
    (s.matchedEntry d = none →
      t.tables = s.tables ∧
      t.events.sources[EventSource.firstHit.index] = s.events.sources[EventSource.firstHit.index] ∧
      t.events.sources[EventSource.watchReached.index] = s.events.sources[EventSource.watchReached.index] ∧
      t.events.sources[EventSource.writeUnderPatch.index] = s.events.sources[EventSource.writeUnderPatch.index]) ∧
    (∀ (i : Slot) (e : Entry), d.slot = some i → s.matchedEntry d = some e →
      (t.tables =
        if e.counts d.write then
          s.tables.set ((s.tables.get d.letter).setSlot i
            (some { e with hitCount := if e.hitCount = 65535 then 65535 else e.hitCount + 1 })) d.letter
        else s.tables) ∧
      (t.events.sources[EventSource.firstHit.index] =
        if e.counts d.write ∧ e.hitCount = 0 ∧ e.reportFirstHit = true then
          s.events.sources[EventSource.firstHit.index].raised (BitVec.ofNat 32 e.line.toNat)
        else s.events.sources[EventSource.firstHit.index]) ∧
      (t.events.sources[EventSource.watchReached.index] =
        if e.counts d.write ∧
            (match e.body with
              | .watch th _ => th != 0 && e.hitCount.toNat + 1 == th.toNat
              | _ => false) = true then
          s.events.sources[EventSource.watchReached.index].raised (BitVec.ofNat 32 e.line.toNat)
        else s.events.sources[EventSource.watchReached.index]) ∧
      (t.events.sources[EventSource.writeUnderPatch.index] =
        if d.write = true ∧
            (match e.body with
              | .watch _ _ => false
              | _ => true) = true then
          s.events.sources[EventSource.writeUnderPatch.index].raised (BitVec.ofNat 32 (4 * d.addr.toNat))
        else s.events.sources[EventSource.writeUnderPatch.index]))

/-! ### The staged set -/

/-- OPEN_SET: EMPTY becomes OPEN with the record of the EMPTY row, the response names the staged table's letter, and
nothing else changes; in any other state BUSY_STATE. -/
def Obligations.OpenSetOpensEmptySet : Prop :=
  ∀ (s : State) (tag : Byte) (rest : List QueuedCommand), s.offers 0x20 tag [] rest →
    s.scu.state.recordFits (s.table .staged) →
    (s.scu.state = .empty → ∃ t,
      t = State.ended { s with scu := { s.scu with state := .opened } } rest tag .ok [s.roles.staged.code] ∧
      exec .openSet s = .next t ∧ (∀ i : Slot, (t.table .staged).slots[i] = none) ∧
      (t.table .staged).generation = 0 ∧ (t.table .staged).expectedCrc = 0 ∧ (t.table .staged).result = .none ∧
      t.store = s.store ∧ t.events = s.events) ∧
    (s.scu.state ≠ .empty → exec .openSet s = .next (s.ended rest tag .busyState []))

/-- CLONE_ACTIVE in EMPTY: each active entry is copied to its own slot with hit count 0, each line it names gains one
reference, no list or word changes, and the record stays that of EMPTY. -/
def Obligations.CloneActiveCopiesAndShares : Prop :=
  ∀ (s : State) (tag : Byte) (rest : List QueuedCommand), s.offers 0x21 tag [] rest →
    s.scu.state = .empty → s.table .staged = Table.empty →
    ∃ (tab : Table) (st : LineStore),
      exec .cloneActive s =
        .next ((State.setTable { s with store := st, scu := { s.scu with state := .opened } } .staged tab).ended rest tag
          .ok (BitVec.ofNat 8 (s.table .active).count :: leBytes 2 (s.table .active).generation.toNat)) ∧
      (∀ i : Slot, tab.slots[i] = (s.table .active).slots[i].map fun e => { e with hitCount := 0 }) ∧
      tab.generation = 0 ∧ tab.expectedCrc = 0 ∧ tab.result = .none ∧ tab.count = (s.table .active).count ∧
      (∀ l : LineIdx, st.lines[l] =
        { s.store.lines[l] with refCount := s.store.lines[l].refCount + (s.table .active).refs l }) ∧
      st.freeList = s.store.freeList ∧ st.badList = s.store.badList ∧ st.threshold = s.store.threshold

/-- ADD_ENTRY of a well-formed record in OPEN, with its line number new and a slot free: the entry takes the lowest free
slot with hit count 0; a SUBSTITUTE takes the head of the free list, filled with its words, or is refused with NO_LINE. -/
def Obligations.AddEntryCreatesEntry : Prop :=
  ∀ (s : State) (tag : Byte) (rest : List QueuedCommand) (r : EntryRecord) (i : Slot),
    s.offers 0x22 tag r.bytes rest → s.scu.state = .opened → r.wellFormed = true →
    (∀ (j : Slot) (e : Entry), (s.table .staged).slots[j] = some e → e.line ≠ r.line) →
    (s.table .staged).slots[i] = none → (∀ j : Slot, j < i → (s.table .staged).slots[j] ≠ none) →
    match r.body with
    | .substitute mask data =>
      (s.store.freeList = [] → exec .addEntry s = .next (s.ended rest tag .noLine [])) ∧
      ∀ (l : LineIdx) (ls : List LineIdx), s.store.freeList = l :: ls →
        ∃ st : LineStore, s.store.allocated st l ls mask data ∧
          exec .addEntry s =
            .next ((State.setTable { s.freeLowTest ls.length with store := st } .staged
              ((s.table .staged).setSlot i (some
                { line := r.line, body := .substitute mask l, origin := r.origin, reportFirstHit := r.report,
                  hitCount := 0 }))).ended rest tag .ok [BitVec.ofNat 8 i.val, BitVec.ofNat 8 l.val])
    | .redirect ce target =>
      exec .addEntry s =
        .next ((s.setTable .staged ((s.table .staged).setSlot i (some
          { line := r.line, body := .redirect ce target, origin := r.origin, reportFirstHit := r.report,
            hitCount := 0 }))).ended rest tag .ok [BitVec.ofNat 8 i.val, 0])
    | .watch threshold dir =>
      exec .addEntry s =
        .next ((s.setTable .staged ((s.table .staged).setSlot i (some
          { line := r.line, body := .watch threshold dir, origin := r.origin, reportFirstHit := r.report,
            hitCount := 0 }))).ended rest tag .ok [BitVec.ofNat 8 i.val, 0])

/-- The checks of ADD_ENTRY and MODIFY_ENTRY in OPEN, in their order: BAD_ARGUMENT for bytes that are no well-formed
record, DUPLICATE or NOT_FOUND by line number, TABLE_FULL; a refused command changes nothing. -/
def Obligations.AddAndModifyCheckInOrder : Prop :=
  (∀ (s : State) (tag : Byte) (p : List Byte) (rest : List QueuedCommand), s.scu.state = .opened →
    (∀ r : EntryRecord, r.wellFormed = true → p ≠ r.bytes) →
    (s.offers 0x22 tag p rest → exec .addEntry s = .next (s.ended rest tag .badArgument [])) ∧
    (s.offers 0x23 tag p rest → exec .modifyEntry s = .next (s.ended rest tag .badArgument []))) ∧
  ∀ (s : State) (tag : Byte) (r : EntryRecord) (rest : List QueuedCommand), s.scu.state = .opened →
    r.wellFormed = true →
    (s.offers 0x22 tag r.bytes rest →
      (∃ (j : Slot) (e : Entry), (s.table .staged).slots[j] = some e ∧ e.line = r.line) →
      exec .addEntry s = .next (s.ended rest tag .duplicate [])) ∧
    (s.offers 0x22 tag r.bytes rest →
      (∀ j : Slot, ∃ e : Entry, (s.table .staged).slots[j] = some e ∧ e.line ≠ r.line) →
      exec .addEntry s = .next (s.ended rest tag .tableFull [])) ∧
    (s.offers 0x23 tag r.bytes rest →
      (∀ (j : Slot) (e : Entry), (s.table .staged).slots[j] = some e → e.line ≠ r.line) →
      exec .modifyEntry s = .next (s.ended rest tag .notFound []))

/-- MODIFY_ENTRY of a well-formed record in OPEN that meets an entry: the replacement keeps the slot, has hit count 0 and
all its fields from the record, and the line store acts by the table of old kind, new kind and reference count. -/
def Obligations.ModifyEntryReplacesEntry : Prop :=
  ∀ (s : State) (tag : Byte) (rest : List QueuedCommand) (r : EntryRecord) (i : Slot) (old : Entry),
    s.offers 0x23 tag r.bytes rest → s.scu.state = .opened → r.wellFormed = true → (s.table .staged).keyed →
    s.accounted → (s.table .staged).slots[i] = some old → old.line = r.line →
    match old.storeLine, r.body with
    | some l, .substitute mask data =>
      (s.store.lines[l].refCount = 1 → ∃ st : LineStore,
        st.freeList = s.store.freeList ∧ st.badList = s.store.badList ∧ st.threshold = s.store.threshold ∧
        st.lines[l].refCount = 1 ∧ st.lines[l].bad = s.store.lines[l].bad ∧ st.lines[l].filledAs mask data ∧
        (∀ m : LineIdx, m ≠ l → st.lines[m] = s.store.lines[m]) ∧
        exec .modifyEntry s =
          .next ((State.setTable { s with store := st } .staged ((s.table .staged).setSlot i (some (r.toEntry l)))).ended
            rest tag .ok [BitVec.ofNat 8 i.val, BitVec.ofNat 8 l.val])) ∧
      (2 ≤ s.store.lines[l].refCount →
        (s.store.freeList = [] → exec .modifyEntry s = .next (s.ended rest tag .noLine [])) ∧
        ∀ (n : LineIdx) (ls : List LineIdx), s.store.freeList = n :: ls →
          ∃ mid st : LineStore, s.store.allocated mid n ls mask data ∧ mid.released st l ∧
            exec .modifyEntry s =
              .next ((State.setTable { s.freeLowTest ls.length with store := st } .staged
                ((s.table .staged).setSlot i (some (r.toEntry n)))).ended
                  rest tag .ok [BitVec.ofNat 8 i.val, BitVec.ofNat 8 n.val]))
    | none, .substitute mask data =>
      (s.store.freeList = [] → exec .modifyEntry s = .next (s.ended rest tag .noLine [])) ∧
      ∀ (n : LineIdx) (ls : List LineIdx), s.store.freeList = n :: ls →
        ∃ st : LineStore, s.store.allocated st n ls mask data ∧
          exec .modifyEntry s =
            .next ((State.setTable { s.freeLowTest ls.length with store := st } .staged
              ((s.table .staged).setSlot i (some (r.toEntry n)))).ended
                rest tag .ok [BitVec.ofNat 8 i.val, BitVec.ofNat 8 n.val])
    | some l, _ =>
      ∃ st : LineStore, s.store.released st l ∧
        exec .modifyEntry s =
          .next ((State.setTable { s with store := st } .staged ((s.table .staged).setSlot i (some (r.toEntry l)))).ended
            rest tag .ok [BitVec.ofNat 8 i.val, 0])
    | none, _ =>
      ∀ l : LineIdx, exec .modifyEntry s =
        .next ((s.setTable .staged ((s.table .staged).setSlot i (some (r.toEntry l)))).ended
          rest tag .ok [BitVec.ofNat 8 i.val, 0])

/-- REMOVE_ENTRY in OPEN: the line number is tested, then looked for; the entry's slot becomes free, its store line loses
one reference and goes to its list at count 0, and the next entry takes the slot when it is the lowest free one. -/
def Obligations.RemoveEntryFreesSlot : Prop :=
  ∀ (s : State) (tag : Byte) (p : List Byte) (rest : List QueuedCommand), s.offers 0x24 tag p rest → p.length = 3 →
    s.scu.state = .opened → (s.table .staged).keyed → s.accounted →
    (0x7FFFFF < field p 0 3 → exec .removeEntry s = .next (s.ended rest tag .badArgument [])) ∧
    (field p 0 3 ≤ 0x7FFFFF →
      (∀ (i : Slot) (e : Entry), (s.table .staged).slots[i] = some e → e.line.toNat ≠ field p 0 3) →
      exec .removeEntry s = .next (s.ended rest tag .notFound [])) ∧
    ∀ (i : Slot) (e : Entry), (s.table .staged).slots[i] = some e → e.line.toNat = field p 0 3 →
      ∃ (tab : Table) (st : LineStore),
        exec .removeEntry s =
          .next ((State.setTable { s with store := st } .staged tab).ended rest tag .ok [BitVec.ofNat 8 i.val]) ∧
        tab.slots[i] = none ∧ (∀ j : Slot, j ≠ i → tab.slots[j] = (s.table .staged).slots[j]) ∧
        tab.count + 1 = (s.table .staged).count ∧ tab.generation = (s.table .staged).generation ∧
        tab.expectedCrc = (s.table .staged).expectedCrc ∧ tab.result = (s.table .staged).result ∧
        ((∀ j : Slot, j < i → (s.table .staged).slots[j] ≠ none) → tab.lowestFree = some i) ∧
        match e.storeLine with
        | none => st = s.store
        | some l => s.store.released st l

/-- SEAL_SET in OPEN: with a generation of 1 to 65535 the set is SEALED under that generation and expected CRC, whatever
the active and retained generations; generation 0 is refused. -/
def Obligations.SealSetFreezesSet : Prop :=
  ∀ (s : State) (tag : Byte) (p : List Byte) (rest : List QueuedCommand), s.offers 0x25 tag p rest → p.length = 6 →
    s.scu.state = .opened → s.scu.state.recordFits (s.table .staged) →
    (field p 0 2 = 0 → exec .sealSet s = .next (s.ended rest tag .badArgument [])) ∧
    (field p 0 2 ≠ 0 →
      exec .sealSet s =
        .next ((State.setTable { s with scu := { s.scu with state := .sealed, computedCrc := 0 } } .staged
          { slots := (s.table .staged).slots, generation := BitVec.ofNat 16 (field p 0 2),
            expectedCrc := BitVec.ofNat 32 (field p 2 4), result := .none }).ended rest tag .ok
              [BitVec.ofNat 8 (s.table .staged).count]))

/-- UNSEAL_SET: SEALED, VERIFIED or FAILED becomes OPEN with the entries, lines, counts and marks as they were and the
record cleared; in any other state BUSY_STATE. -/
def Obligations.UnsealSetReopensSet : Prop :=
  ∀ (s : State) (tag : Byte) (rest : List QueuedCommand), s.offers 0x26 tag [] rest →
    (s.scu.state = .sealed ∨ s.scu.state = .verified ∨ s.scu.state = .failed →
      exec .unsealSet s =
        .next ((State.setTable { s with scu := { s.scu with state := .opened, computedCrc := 0 } } .staged
          { slots := (s.table .staged).slots, generation := 0, expectedCrc := 0, result := .none }).ended rest tag .ok
            [])) ∧
    (s.scu.state = .empty ∨ s.scu.state = .opened ∨ s.scu.state = .loading ∨ s.scu.state = .verifying ∨
      s.scu.state = .commitPending → exec .unsealSet s = .next (s.ended rest tag .busyState []))

/-- DISCARD_SET: OK with count 0 in EMPTY; where the state accepts it otherwise, the staged entries are released in slot
order, the record is cleared, a verification and a command load are abandoned, and the response counts the entries. -/
def Obligations.DiscardSetReleasesStagedTable : Prop :=
  ∀ (s : State) (tag : Byte) (rest : List QueuedCommand), s.offers 0x28 tag [] rest →
    (s.scu.state = .empty → exec .discardSet s = .next (s.ended rest tag .ok [0])) ∧
    (s.scu.state ≠ .empty → s.stagedAccepts .discardSet = some true → s.accounted → ∃ st : LineStore,
      s.store.tableReleased st (s.table .staged) ∧
      exec .discardSet s =
        .next ((State.setTable
          { s with
            store := st
            scu := { s.scu with state := .empty, verifier := none, computedCrc := 0 }
            loader := if s.loader.kind = .command then { s.loader with state := .idle } else s.loader
            port := { s.port with
              loader := none, verifier := none
              access := s.port.access.map fun a => if a.who = .host then a else { a with givenUp := true } } }
          .staged Table.empty).ended rest tag .ok [BitVec.ofNat 8 (s.table .staged).count]))

/-- A staged-set command is answered with BUSY_STATE, and changes nothing, exactly where the acceptance table says so; a
service command whose payload length fits none of its forms is answered with BAD_ARGUMENT. (CANCEL_COMMIT is not taken
between the end that makes a commit due and its effect point: log 17.) -/
def Obligations.AcceptanceTableOfStagedSet : Prop :=
  ∀ (c : Instr) (s : State) (code tag : Byte) (p : List Byte) (rest : List QueuedCommand),
    commandCode c = some code → s.offers code tag p rest →
    (c = .cancelCommit → s.commitDue = true → s.inFlight = true) →
    (payloadFits code p.length = false → exec c s = .next (s.ended rest tag .badArgument [])) ∧
    (payloadFits code p.length = true →
      (s.stagedAccepts c = some false → exec c s = .next (s.ended rest tag .busyState [])) ∧
      (s.stagedAccepts c = some true → ∃ (t : State) (result : ResultCode) (payload : List Byte),
        exec c s = .next t ∧ t.svp.responses = s.svp.responses ++ [⟨tag, result, payload⟩] ∧ result ≠ .busyState))

/-- While the staged set stays SEALED, VERIFYING, VERIFIED, FAILED or COMMIT_PENDING, no command changes its entries or
the words of the lines they name; only a disturbance of the store's cells (log 6) does. -/
def Obligations.FrozenSetKeepsEntriesAndWords : Prop :=
  ∀ (c : Instr) (s t : State), s.wf → s.scu.state.frozen = true → exec c s = .next t → t.scu.state.frozen = true →
    (match c with
     | .acceptance us => us
     | .accessComplete _ us => us
     | .readEntry us => us
     | .scrubLine us => us
     | .verifySet us => us
     | _ => []) = [] →
    (t.table .staged).slots = (s.table .staged).slots ∧
    ∀ (i : Slot) (e : Entry) (l : LineIdx), (s.table .staged).slots[i] = some e → e.storeLine = some l →
      t.store.lines[l].words = s.store.lines[l].words

/-- The set CRC is the CRC-32 of the entries' records in ascending line number, so it does not depend on the slots, the
store lines or the hit counts; for no entries it is 0. -/
def Obligations.SetCrcIsOfSortedRecords : Prop :=
  (∀ (s : State) (t : Table), t.keyed →
    t.walk.Perm t.entries ∧ t.walk.Pairwise (fun x y => x.2.line < y.2.line) ∧
    s.setCrc t = crc32 (t.walk.flatMap fun x => s.entryBytes x.2)) ∧
  (∀ (s s' : State) (t t' : Table), t.keyed →
    (t.entries.map fun x => (x.2.line, s.entryBytes x.2)).Perm (t'.entries.map fun x => (x.2.line, s'.entryBytes x.2)) →
    s.setCrc t = s'.setCrc t') ∧
  ∀ (s : State) (t : Table), (∀ i : Slot, t.slots[i] = none) → s.setCrc t = 0

/-- VERIFY_SET in SEALED or FAILED is taken, whatever the set and the disturbances (log 6): verification starts and the
response gives generation and count. Of a set whose entries have no origin check the walk tests every masked word, whole in
this one step (log 16): at the first line in line-number order that is marked, or unmarked with a failing word (which marks
it and raises LINE_FAULT), it ends BAD_LINE, else the set CRC decides between OK and CRC_MISMATCH; the result, the state and
VERIFY_DONE follow. -/
def Obligations.VerifySetWithoutOriginsDecides : Prop :=
  ∀ (s : State) (tag : Byte) (rest : List QueuedCommand), s.offers 0x27 tag [] rest →
    s.scu.state = .sealed ∨ s.scu.state = .failed →
    (∀ us : List Upset,
      exec (.verifySet us) s =
        .next ((State.startVerification { s with store := s.store.upset us } .verifySet).ended rest tag .ok
          (leBytes 2 (s.table .staged).generation.toNat ++ [BitVec.ofNat 8 (s.table .staged).count]))) ∧
    ((∀ x ∈ (s.table .staged).entries, x.2.origin = none) →
    ((∀ x ∈ (s.table .staged).entries, ∀ mask l, x.2.body = .substitute mask l →
        s.store.lines[l].bad = false ∧
          ∀ i : WordIdx, mask.getLsbD i.val = true → s.store.lines[l].words[i].agrees = true) →
      ∀ res, res = (if s.setCrc (s.table .staged) = (s.table .staged).expectedCrc then VerifyResult.ok
          else .crcMismatch) →
      exec (.verifySet []) s =
        .next ((s.verifyDone res (s.setCrc (s.table .staged))).ended rest tag .ok
          (leBytes 2 (s.table .staged).generation.toNat ++ [BitVec.ofNat 8 (s.table .staged).count]))) ∧
    (∀ (pre post : List (Slot × Entry)) (i : Slot) (e : Entry) (mask : BitVec 8) (l : LineIdx),
      (s.table .staged).walk = pre ++ (i, e) :: post → e.body = .substitute mask l →
      (∀ x ∈ pre, ∀ m k, x.2.body = .substitute m k → s.store.lines[k].bad = false ∧
        ∀ w : WordIdx, m.getLsbD w.val = true → s.store.lines[k].words[w].agrees = true) →
      (s.store.lines[l].bad = true →
        exec (.verifySet []) s =
          .next ((s.verifyDone .badLine s.scu.computedCrc).ended rest tag .ok
            (leBytes 2 (s.table .staged).generation.toNat ++ [BitVec.ofNat 8 (s.table .staged).count]))) ∧
      (s.store.lines[l].bad = false →
        (∃ w : WordIdx, mask.getLsbD w.val = true ∧ s.store.lines[l].words[w].agrees = false) →
        exec (.verifySet []) s =
          .next ((State.verifyDone
              (State.raise { s with store := s.store.setLine l { s.store.lines[l] with bad := true } } .lineFault
                (BitVec.ofNat 32 l.val)) .badLine s.scu.computedCrc).ended rest tag .ok
            (leBytes 2 (s.table .staged).generation.toNat ++ [BitVec.ofNat 8 (s.table .staged).count])))))

/-! ### Commit, gate, revert -/

/-- COMMIT: the staged-set state, then the arguments, then the generation are tested; an accepted commit waits with its
gate and deadline, or takes effect at once and says so in the disposition. Its marker reaches the trace unit in whatever
capture state that is, on either side of a trigger by COMMIT_RESULT (log 11). -/
def Obligations.CommitDecides : Prop :=
  ∀ (s : State) (tag : Byte) (p : List Byte) (rest : List QueuedCommand), s.offers 0x30 tag p rest → p.length = 8 →
    (s.scu.state = .commitPending ∨ s.scu.state = .loading ∨ s.scu.state = .verifying →
      exec .commit s = .next (s.ended rest tag .busyState [])) ∧
    (s.scu.state = .empty ∨ s.scu.state = .opened ∨ s.scu.state = .sealed ∨ s.scu.state = .failed →
      exec .commit s = .next (s.ended rest tag .notVerified [])) ∧
    (s.scu.state = .verified →
      ((byteAt p 0 ≠ 0 ∧ byteAt p 0 ≠ 1) ∨ (byteAt p 0 = 1 ∧ (field p 4 2 = 0 ∨ 2048 < field p 4 2 ∨
          0x7FFFFF < field p 1 3 ∨ 0x800000 < field p 1 3 + field p 4 2)) →
        exec .commit s = .next (s.ended rest tag .badArgument [])) ∧
      ∀ a : CommitArgs,
        (byteAt p 0 = 0 ∧ a = { mode := .atBoundary, gateBase := 0, gateLength := 0, timeout := 0 }) ∨
          (byteAt p 0 = 1 ∧ 1 ≤ field p 4 2 ∧ field p 4 2 ≤ 2048 ∧ field p 1 3 ≤ 0x7FFFFF ∧
            field p 1 3 + field p 4 2 ≤ 0x800000 ∧
            a = { mode := .gated, gateBase := BitVec.ofNat 23 (field p 1 3), gateLength := field p 4 2,
                  timeout := BitVec.ofNat 16 (field p 6 2) }) →
        ((s.table .staged).generation ≤ (s.table .active).generation →
          exec .commit s = .next (s.ended rest tag .generationLow [])) ∧
        ((s.table .active).generation < (s.table .staged).generation →
          (s.hbi.held = false → a.mode = .gated ∨ s.inFlight = true →
            exec .commit s =
              .next (State.ended
                { s with scu := { s.scu with
                    state := .commitPending
                    commit := some { args := a, requester := .service, gateOpen := false
                                     deadline := if a.timeout = 0 then none else
                                       some (s.timeBase + BitVec.ofNat 32 (1000 * a.timeout.toNat)) } } }
                rest tag .ok (leBytes 2 (s.table .staged).generation.toNat ++ [0]))) ∧
          (s.hbi.held = true ∨ (a.mode = .atBoundary ∧ s.inFlight = false) →
            (s.namesBadLine .staged →
              exec .commit s = .next (s.commitFailed.ended rest tag .ok
                (leBytes 2 (s.table .staged).generation.toNat ++ [2]))) ∧
            (¬ s.namesBadLine .staged → s.roles.distinct → s.accounted →
              ∃ t, exec .commit s = .next t ∧ s.commitTookEffect t ∧ t.hbi = s.hbi ∧ t.loader = s.loader ∧
                t.svp = (s.ended rest tag .ok (leBytes 2 (s.table .staged).generation.toNat ++ [1])).svp))))

/-- The effect point of a pending commit that is due, at a boundary: with a bad line in the staged set the commit fails
and no role moves; otherwise the old retained table is released and the roles rotate. A start-up commit ends its load. The
marker is recorded, counted, or dropped as the capture state has it; where COMMIT_RESULT is the event trigger of an armed
trace unit it falls on either side of the trigger (R142, log 11). -/
def Obligations.EffectPointRotatesOrFails : Prop :=
  ∀ (s : State) (pc : PendingCommit), s.inReset = false → s.scu.commit = some pc →
    pc.args.mode = .atBoundary ∨ pc.gateOpen = true → s.inFlight = false →
    (s.namesBadLine .staged →
      exec .effectPoint s =
        .next (match pc.requester with
          | .service => s.commitFailed
          | .startUp => s.commitFailed.startUpFailed 9)) ∧
    (¬ s.namesBadLine .staged → s.roles.distinct → s.accounted →
      ∃ t, exec .effectPoint s = .next t ∧ s.commitTookEffect t ∧ t.svp = s.svp ∧
        (match pc.requester with
         | .service => t.hbi = s.hbi ∧ t.loader = s.loader
         | .startUp => t.hbi = { s.hbi with held := s.hbi.held && s.straps.mode != .loadHold } ∧
             t.loader = { s.loader with state := .idle }))

/-- A transaction opens the gate of a pending commit exactly when the commit is GATED and the transaction is a read, a
FETCH, ends OKAY, and its line lies in the gate window, and its end comes before the expiry: not when the time base already
stands at the deadline (log 9). The gate's timer then stops. With no commit pending its end does nothing at the SCU, and
neither does an end that an access's failure brings. -/
def Obligations.GateOpensForFetchInWindow : Prop :=
  (∀ (s : State) (d : Decision) (okay : Bool) (outcome : TxnOutcome) (pc : PendingCommit)
      (before : List (EventSource × Word)),
    s.scu.commit = some pc → pc.gateOpen = false →
    ((s.endTransaction d okay outcome before).scu.commit = some { pc with gateOpen := true, deadline := none } ↔
      pc.args.mode = .gated ∧ d.write = false ∧ d.fetch = true ∧ okay = true ∧
        pc.args.gateBase.toNat ≤ d.addr.toNat / 8 ∧ d.addr.toNat / 8 < pc.args.gateBase.toNat + pc.args.gateLength ∧
        pc.deadline ≠ some s.timeBase) ∧
    ((s.endTransaction d okay outcome before).scu.commit ≠ some { pc with gateOpen := true, deadline := none } →
      (s.endTransaction d okay outcome before).scu = s.scu)) ∧
  ∀ (s : State) (d : Decision) (okay : Bool) (outcome : TxnOutcome) (before : List (EventSource × Word)),
    s.scu.commit = none → (s.endTransaction d okay outcome before).scu = s.scu

/-- A pending commit is withdrawn, the set VERIFIED again, when its gate timer expires, exactly 1000 steps of the time
base per millisecond after acceptance and at no other moment (the expiry is a command of its own at that moment: log 9),
or on CANCEL_COMMIT; expiry raises COMMIT_RESULT with TIMEOUT, and a start-up load ends with START_FAILED. (When
CANCEL_COMMIT is not taken: log 17.) -/
def Obligations.PendingCommitWithdrawn : Prop :=
  (∀ (s : State) (pc : PendingCommit) (t0 : Word), s.inReset = false → s.scu.commit = some pc →
    pc.deadline = some (t0 + BitVec.ofNat 32 (1000 * pc.args.timeout.toNat)) →
    ((s.timeBase - t0).toNat ≠ 1000 * pc.args.timeout.toNat → exec .gateTimerExpiry s = .next s) ∧
    ((s.timeBase - t0).toNat = 1000 * pc.args.timeout.toNat →
      exec .gateTimerExpiry s =
        .next (match pc.requester with
          | .service => s.withdrawn.raise .commitResult
              (BitVec.ofNat 32 (2 + 65536 * (s.table .staged).generation.toNat))
          | .startUp => (s.withdrawn.raise .commitResult
              (BitVec.ofNat 32 (2 + 65536 * (s.table .staged).generation.toNat))).startUpFailed 128))) ∧
  ∀ (s : State) (tag : Byte) (rest : List QueuedCommand), s.offers 0x31 tag [] rest →
    (s.commitDue = true → s.inFlight = true) →
    (s.scu.state ≠ .commitPending → exec .cancelCommit s = .next (s.ended rest tag .notPending [])) ∧
    ∀ pc, s.scu.state = .commitPending → s.scu.commit = some pc →
      exec .cancelCommit s =
        .next ((match pc.requester with
          | .service => s.withdrawn
          | .startUp => s.withdrawn.startUpFailed 129).ended rest tag .ok
            (leBytes 2 (s.table .staged).generation.toNat))

/-- REVERT: BUSY_STATE in COMMIT_PENDING and LOADING; at once when no transaction is in flight or the host is held;
otherwise it waits, and REVERT_EFFECT performs it at the boundary, done or refused, after which a start-up commit deferred
behind it is armed under the roles that result: it waits for its gate, or takes effect or fails at once. CLEAR_RETAINED is
taken in every state: the retained table is released in slot order and its record cleared; the response counts the entries
and the lines that reached count 0. A revert's marker reaches the trace unit in whatever capture state that is. -/
def Obligations.RevertAndClearRetained : Prop :=
  ((∀ (s : State) (tag : Byte) (rest : List QueuedCommand), s.offers 0x32 tag [] rest →
    (s.scu.state = .commitPending ∨ s.scu.state = .loading →
      exec .revert s = .next (s.ended rest tag .busyState [])) ∧
    (s.scu.state ≠ .commitPending → s.scu.state ≠ .loading →
      (s.inFlight = true → s.hbi.held = false →
        exec .revert s =
          .next { s with svp := { s.svp with commands := rest, executing := some { tag := tag, what := .revert } } }) ∧
      (s.inFlight = false ∨ s.hbi.held = true →
        ∃ t, exec .revert s = .next t ∧ (s.taken rest).revertOutcome t tag))) ∧
  ∀ (s : State) (tag : Byte), s.inReset = false → s.svp.executing = some { tag := tag, what := .revert } →
    s.inFlight = false →
    (s.scu.deferred = none → ∃ t, exec .revertEffect s = .next t ∧
      State.revertOutcome { s with svp := { s.svp with executing := none } } t tag) ∧
    (∀ a : CommitArgs, s.scu.deferred = some a → a.mode = .gated → s.hbi.held = false → s.scu.state = .verified →
      s.roles.distinct → ¬ s.namesBadLine .retained →
      (s.table .retained).generation < (s.table .staged).generation →
      ∃ t, exec .revertEffect s = .next t ∧
        t.roles = { active := s.roles.retained, staged := s.roles.staged, retained := s.roles.active } ∧
        t.tables = s.tables ∧ t.store = s.store ∧ t.loader = s.loader ∧ t.hbi = s.hbi ∧ t.svp.executing = none ∧
        t.scu = { s.scu with
          state := .commitPending, deferred := none
          commit := some { args := a, requester := .startUp, gateOpen := false
                           deadline := if a.timeout = 0 then none else
                             some (s.timeBase + BitVec.ofNat 32 (1000 * a.timeout.toNat)) } }) ∧
    (∀ a : CommitArgs, s.scu.deferred = some a → s.scu.state = .verified → s.scu.commit = none →
      ∃ m u, exec .revertEffect s = .next u ∧
        State.revertOutcome { s with svp := { s.svp with executing := none } } m tag ∧
        ((m.table .active).generation < (m.table .staged).generation →
          State.startUpCommitArmed { m with scu := { m.scu with deferred := none } } u a))) ∧
  ∀ (s : State) (tag : Byte) (rest : List QueuedCommand), s.offers 0x33 tag [] rest → s.accounted →
    ∃ st : LineStore, s.store.tableReleased st (s.table .retained) ∧
      exec .clearRetained s =
        .next ((State.setTable { s with store := st } .retained Table.empty).ended rest tag .ok
          [BitVec.ofNat 8 (s.table .retained).count,
           BitVec.ofNat 8 ((s.table .retained).lines.countP fun l => s.store.lines[l].refCount == 1)])

/-! ### Loads and the start-up hold -/

/-- LOAD_IMAGE: BUSY_STATE unless EMPTY; then the chip enable and a line-aligned offset up to 0x3FFF4E0 are tested; an
accepted load is LOADING with its cursor at the image, its first header word asked for with the background wait
states. RELEASE_HOST lifts a hold and reports the phase, or answers NOT_HELD. -/
def Obligations.LoadImageAndReleaseHost : Prop :=
  (∀ (s : State) (tag : Byte) (p : List Byte) (rest : List QueuedCommand), s.offers 0x40 tag p rest → p.length = 5 →
    (s.scu.state ≠ .empty → exec .loadImage s = .next (s.ended rest tag .busyState [])) ∧
    (s.scu.state = .empty →
      ((byteAt p 0 ≠ 0 ∧ byteAt p 0 ≠ 1) ∨ field p 1 4 % 32 ≠ 0 ∨ 0x3FFF4E0 < field p 1 4 →
        exec .loadImage s = .next (s.ended rest tag .badArgument [])) ∧
      ∀ ce : ChipEnable, byteAt p 0 = ce.code → field p 1 4 % 32 = 0 → field p 1 4 ≤ 0x3FFF4E0 →
        exec .loadImage s =
          .next (State.ended
            { s with
              scu := { s.scu with state := .loading }
              loader := { state := .header, kind := .command, ce := ce, cursor := BitVec.ofNat 26 (field p 1 4),
                          header := [], remaining := 0, sum := 0, record := [] }
              port := s.port.request s.timeBase .loader
                { ce := ce, addr := BitVec.ofNat 26 (field p 1 4), write := false, data := 0, enables := 15,
                  wait := s.regions.background.wait } }
            rest tag .ok [s.roles.staged.code]))) ∧
  ∀ (s : State) (tag : Byte) (rest : List QueuedCommand), s.offers 0x41 tag [] rest →
    (s.hbi.held = false → exec .releaseHost s = .next (s.ended rest tag .notHeld [])) ∧
    (s.hbi.held = true →
      exec .releaseHost s =
        .next (State.ended { s with hbi := { s.hbi with held := false } } rest tag .ok
          [if s.loader.state ≠ .idle ∧ s.loader.kind = .startUp then 1 else 2]))

/-! ### Regions and memory timing -/

/-- SET_REGION writes a well-formed record whole from its 16 bytes, READ_REGION in record form answers with the same 16
bytes, and bytes that are no well-formed record are refused. -/
def Obligations.SetRegionWritesRecordWhole : Prop :=
  (∀ (s : State) (tag : Byte) (rest : List QueuedCommand) (n : Fin 8) (r : RegionRecord), r.fits →
    s.offers 0x50 tag (r.bytes n.val) rest →
    exec .setRegion s =
      .next (State.ended { s with regions := { s.regions with records := s.regions.records.set n.val r n.isLt } }
        rest tag .ok [BitVec.ofNat 8 n.val])) ∧
  (∀ (s : State) (tag : Byte) (rest : List QueuedCommand) (n : Fin 8), s.offers 0x51 tag [BitVec.ofNat 8 n.val] rest →
    exec .readRegion s = .next (s.ended rest tag .ok (s.regions.records[n].bytes n.val))) ∧
  (∀ (n : Fin 8) (r : RegionRecord),
    (r.bytes n.val).length = 16 ∧ (byteAt (r.bytes n.val) 0).toNat = n.val ∧
    (byteAt (r.bytes n.val) 1).toNat = r.enabled.toNat + 2 * r.trace.toNat ∧
    (byteAt (r.bytes n.val) 2).toNat = r.sizeExp.toNat ∧ byteAt (r.bytes n.val) 3 = r.kind.code ∧
    byteAt (r.bytes n.val) 4 = r.ce.code ∧ (byteAt (r.bytes n.val) 5).toNat = r.wait.toNat ∧
    byteAt (r.bytes n.val) 6 = r.policy.code ∧ byteAt (r.bytes n.val) 7 = 0 ∧
    field (r.bytes n.val) 8 4 = r.base.toNat ∧ field (r.bytes n.val) 12 4 = r.offset.toNat) ∧
  ∀ (s : State) (tag : Byte) (p : List Byte) (rest : List QueuedCommand), s.offers 0x50 tag p rest → p.length = 16 →
    (∀ (n : Fin 8) (r : RegionRecord), r.fits → p ≠ r.bytes n.val) →
    exec .setRegion s = .next (s.ended rest tag .badArgument [])

/-- SET_BACKGROUND writes the four settable fields at once, and refuses PATCHABLE, wait states above 15 and other codes;
SET_MEMORY_TIMING reads or sets the ready timeout of one chip enable, and the access in progress keeps its own. -/
def Obligations.SetBackgroundAndTiming : Prop :=
  (∀ (s : State) (tag : Byte) (p : List Byte) (rest : List QueuedCommand), s.offers 0x52 tag p rest → p.length = 4 →
    (∀ g : Background, p = [g.kind.toRegion.code, g.wait.setWidth 8, g.policy.code, flagByte g.trace] →
      exec .setBackground s =
        .next (State.ended { s with regions := { s.regions with background := g } } rest tag .ok [])) ∧
    ((byteAt p 0 ≠ 0 ∧ byteAt p 0 ≠ 2) ∨ 15 < (byteAt p 1).toNat ∨ 2 < (byteAt p 2).toNat ∨ 1 < (byteAt p 3).toNat →
      exec .setBackground s = .next (s.ended rest tag .badArgument []))) ∧
  ∀ (s : State) (tag : Byte) (p : List Byte) (rest : List QueuedCommand), s.offers 0x58 tag p rest →
    (p.length = 1 ∨ p.length = 3 → 1 < (byteAt p 0).toNat →
      exec .setMemoryTiming s = .next (s.ended rest tag .badArgument [])) ∧
    (p = [0] → exec .setMemoryTiming s = .next (s.ended rest tag .ok [0, s.port.timeout0])) ∧
    (p = [1] → exec .setMemoryTiming s = .next (s.ended rest tag .ok [1, s.port.timeout1])) ∧
    (p.length = 3 → 255 < field p 1 2 → exec .setMemoryTiming s = .next (s.ended rest tag .badArgument [])) ∧
    (∀ v : Byte, p = [0, v, 0] →
      exec .setMemoryTiming s =
        .next (State.ended { s with port := { s.port with timeout0 := v } } rest tag .ok [0, s.port.timeout0, v])) ∧
    (∀ v : Byte, p = [1, v, 0] →
      exec .setMemoryTiming s =
        .next (State.ended { s with port := { s.port with timeout1 := v } } rest tag .ok [1, s.port.timeout1, v]))

/-- The enabled record of lowest number that contains an address classifies it, else the background rule; READ_REGION in
address form reports the classification and the mapped address; with well-formed records every mapped address of an
address that is not BLOCKED lies below 64 MiB. -/
def Obligations.ClassificationOfAnAddress : Prop :=
  (∀ (t : RegionTable) (a : Nat),
    (∀ i : Fin 8, t.records[i].contains a = true → (∀ j : Fin 8, j < i → t.records[j].contains a = false) →
      (t.classify a).record = some i ∧ (t.classify a).kind = t.records[i].kind ∧
      (t.classify a).ce = t.records[i].ce ∧ (t.classify a).wait = t.records[i].wait ∧
      (t.classify a).policy = t.records[i].policy ∧ (t.classify a).trace = t.records[i].trace ∧
      (t.classify a).mapped a = t.records[i].offset.toNat + (a - t.records[i].base.toNat)) ∧
    ((∀ i : Fin 8, t.records[i].contains a = false) →
      (t.classify a).record = none ∧ (t.classify a).kind = t.background.kind.toRegion ∧ (t.classify a).ce = .ce0 ∧
      (t.classify a).wait = t.background.wait ∧ (t.classify a).policy = t.background.policy ∧
      (t.classify a).trace = t.background.trace ∧ (t.classify a).mapped a = a % 0x4000000) ∧
    ((∀ i : Fin 8, t.records[i].fits) → (t.classify a).kind ≠ .blocked → (t.classify a).mapped a < 0x4000000)) ∧
  (∀ (r : RegionRecord) (a : Nat), r.contains a = true ↔
    r.enabled = true ∧ r.base.toNat ≤ a ∧ a < r.base.toNat + 4096 * 2 ^ r.sizeExp.toNat) ∧
  ∀ (s : State) (tag : Byte) (p : List Byte) (rest : List QueuedCommand), s.offers 0x51 tag p rest →
    (p = [8] → exec .readRegion s = .next (s.ended rest tag .ok
      ([8, if s.regions.background.trace then 2 else 0, 0, s.regions.background.kind.toRegion.code, 0,
        s.regions.background.wait.setWidth 8, s.regions.background.policy.code, 0] ++ List.replicate 8 0))) ∧
    (p.length = 1 → 8 < (byteAt p 0).toNat → exec .readRegion s = .next (s.ended rest tag .badArgument [])) ∧
    (p.length = 4 → 0xFFFFFFF < field p 0 4 → exec .readRegion s = .next (s.ended rest tag .badArgument [])) ∧
    (p.length = 4 → field p 0 4 ≤ 0xFFFFFFF →
      exec .readRegion s =
        .next (s.ended rest tag .ok
          ([match (s.regions.classify (field p 0 4)).record with
            | none => 8
            | some i => BitVec.ofNat 8 i.val,
            (s.regions.classify (field p 0 4)).kind.code, (s.regions.classify (field p 0 4)).ce.code,
            (s.regions.classify (field p 0 4)).wait.setWidth 8, (s.regions.classify (field p 0 4)).policy.code,
            flagByte (s.regions.classify (field p 0 4)).trace, 0, 0] ++
            leBytes 4 ((s.regions.classify (field p 0 4)).mapped (field p 0 4)))))

/-! ### The memory side -/

/-- The port becomes FREE at the end of an access that its requester has given up, and the waiting request of highest
precedence starts at once: host, then loader, then verifier, with the chip enable's ready timeout as it stands. The signals
follow the port: one chip enable, MA, byte enables and a write's MD in an access, MOEn or MWEn low after its address phase,
and everything high and MD not driven between accesses (no level of MA: log 25). -/
def Obligations.PortGrantsByPrecedence : Prop :=
  (∀ (p : MemPort) (phase : AccessPhase),
    (p.access = none →
      (p.pins phase).ce0n = true ∧ (p.pins phase).ce1n = true ∧ (p.pins phase).moen = true ∧ (p.pins phase).mwen = true ∧
      (p.pins phase).mben = 0xF ∧ (p.pins phase).md = none) ∧
    ∀ a, p.access = some a →
      ((p.pins phase).ce0n = false ↔ a.req.ce = .ce0) ∧ ((p.pins phase).ce1n = false ↔ a.req.ce = .ce1) ∧
      (p.pins phase).ma = some (BitVec.ofNat 24 (a.req.addr.toNat / 4)) ∧
      (∀ k < 4, (p.pins phase).mben.getLsbD k = !a.req.enables.getLsbD k) ∧
      ((p.pins phase).moen = false ↔ a.req.write = false ∧ phase ≠ .address) ∧
      ((p.pins phase).mwen = false ↔ a.req.write = true ∧ phase ≠ .address) ∧
      (p.pins phase).md = (if a.req.write then some a.req.data else none)) ∧
  ∀ (s : State) (a : Access) (md : Word) (us : List Upset), s.inReset = false → s.port.access = some a →
    a.givenUp = true →
    (∀ r, s.port.host = some r →
      exec (.accessComplete md us) s = .next { s with port := { s.port with
        host := none
        access := some { who := .host, givenUp := false, req := r, timeout := s.port.timeoutOf r.ce,
                         start := s.timeBase, steps := 0 } } }) ∧
    (∀ r, s.port.host = none → s.port.loader = some r →
      exec (.accessComplete md us) s = .next { s with port := { s.port with
        loader := none
        access := some { who := .loader, givenUp := false, req := r, timeout := s.port.timeoutOf r.ce,
                         start := s.timeBase, steps := 0 } } }) ∧
    (∀ r, s.port.host = none → s.port.loader = none → s.port.verifier = some r →
      exec (.accessComplete md us) s = .next { s with port := { s.port with
        verifier := none
        access := some { who := .verifier, givenUp := false, req := r, timeout := s.port.timeoutOf r.ce,
                         start := s.timeBase, steps := 0 } } }) ∧
    (s.port.host = none → s.port.loader = none → s.port.verifier = none →
      exec (.accessComplete md us) s = .next { s with port := { s.port with access := none } })

/-- The end of a host read access: the word is strobed to the host, and the transaction ends OKAY at its last beat or asks
for the next MEMORY word; the end of a forwarded write beat strobes it and asks for the next word. And whatever the plan,
the read or the forwarded write goes on beat by beat to its end or its next memory-side access (in one step: log 16; behind
a waiting request's grant: log 15). -/
def Obligations.HostAccessTransfersItsBeat : Prop :=
  ∀ (s : State) (a : Access) (md : Word) (us : List Upset) (t : Txn), s.inReset = false → s.port.access = some a →
    a.who = .host → a.givenUp = false → s.hbi.state = .inFlight t → t.done < beatCount t.dec.len →
    (t.dec.write = false → t.done + 1 = beatCount t.dec.len → t.dec.plan.length = beatCount t.dec.len →
      ∃ u, exec (.accessComplete md us) s = .next u ∧ u.inFlight = false ∧
        u.hbi.strobes = s.hbi.strobes ++ [{ hrd := some md, hstb := true, hend := true, herr := false }] ∧
        u.hbi.state = (match s.hbi.nextRequest with
          | none => .idle
          | some q => .waiting q) ∧
        u.port = s.port.free s.timeBase ∧ u.store = s.store.upset us ∧ u.roles = s.roles ∧ u.regions = s.regions ∧
        u.loader = s.loader ∧ u.svp = s.svp ∧
        u = State.endTransaction
          { s with
            store := s.store.upset us
            port := s.port.free s.timeBase
            hbi := { s.hbi with
              strobes := s.hbi.strobes ++ [{ hrd := some md, hstb := true, hend := true, herr := false }] } }
          t.dec true
          (match s.matchedEntry t.dec with
            | none => .pass
            | some e => match e.body with
              | .substitute _ _ =>
                if t.fellBack then .fallback
                else if t.dec.plan.all fun b => match b with
                  | .store _ => true
                  | _ => false
                then .substituted
                else .merged
              | .redirect _ _ => .redirected
              | .watch _ _ => .watched) []) ∧
    (t.dec.write = false → t.done + 1 < beatCount t.dec.len → t.dec.plan[t.done + 1]? = some .memory →
      exec (.accessComplete md us) s =
        .next { s with
          store := s.store.upset us
          hbi := { s.hbi with
            strobes := s.hbi.strobes ++ [{ hrd := some md, hstb := true, hend := false, herr := false }]
            state := .inFlight { t with done := t.done + 1 } }
          port := (s.port.free s.timeBase).request s.timeBase .host
            (readRequest t.dec.region.ce
              (BitVec.ofNat 26 (t.dec.region.mapped (32 * (t.dec.addr.toNat / 8) +
                4 * (beatIdx (t.dec.addr.toNat % 8) (beatCount t.dec.len) (t.done + 1)).val)))
              t.dec.region.wait) }) ∧
    (t.dec.write = true → t.done + 1 < beatCount t.dec.len → t.dec.region.policy = .forward →
      ∀ (w0 w : WriteBeat) (ws : List WriteBeat), t.writes = w0 :: w :: ws → w.enables ≠ 0 →
      exec (.accessComplete md us) s =
        .next { s with
          store := s.store.upset us
          hbi := { s.hbi with
            strobes := s.hbi.strobes ++ [{ hrd := none, hstb := true, hend := false, herr := false }]
            state := .inFlight { t with done := t.done + 1, writes := w :: ws } }
          port := (s.port.free s.timeBase).request s.timeBase .host
            { ce := t.dec.region.ce
              addr := BitVec.ofNat 26 (t.dec.region.mapped (32 * (t.dec.addr.toNat / 8) +
                4 * (beatIdx (t.dec.addr.toNat % 8) (beatCount t.dec.len) (t.done + 1)).val))
              write := true, data := w.data, enables := w.enables, wait := t.dec.region.wait } }) ∧
    (t.dec.write = false → ∃ u, exec (.accessComplete md us) s = .next u ∧
      State.readGoesOn
        { s with
          store := s.store.upset us
          port := s.port.free s.timeBase
          hbi := { s.hbi with
            strobes := s.hbi.strobes ++
              [{ hrd := some md, hstb := true, hend := t.done + 1 == beatCount t.dec.len, herr := false }] } }
        { t with done := t.done + 1 } (t.dec.plan.drop (t.done + 1)) u) ∧
    (t.dec.write = true → t.dec.region.policy = .forward → t.done + t.writes.length = beatCount t.dec.len →
      ∃ u, exec (.accessComplete md us) s = .next u ∧
      State.writeGoesOn
        { s with
          store := s.store.upset us
          port := s.port.free s.timeBase
          hbi := { s.hbi with
            strobes := s.hbi.strobes ++
              [{ hrd := none, hstb := true, hend := t.done + 1 == beatCount t.dec.len, herr := false }] } }
        { t with done := t.done + 1, writes := t.writes.tail } u)

/-- ACCESS_EXPIRY does nothing at another count than the ready timeout, or with timeout 0; at that count (log 9) the port
raises DOWNSTREAM_TIMEOUT with chip enable and address and becomes FREE, and its requester is told: the host transaction
ends ERROR, a load in HEADER or BODY, a command's or the start-up load, fails READ_TIMEOUT, a verification, whoever started
it, ends ORIGIN_UNREADABLE, and for a given-up access nothing more. -/
def Obligations.AccessExpiryFailsTheAccess : Prop :=
  ∀ (s : State) (a : Access) (d : Word), s.inReset = false → s.port.access = some a →
    d = BitVec.ofNat 32 (a.req.addr.toNat + (match a.req.ce with | .ce0 => 0 | .ce1 => 0x80000000)) →
    (a.timeout = 0 ∨ a.steps ≠ a.timeout.toNat → exec .accessExpiry s = .next s) ∧
    (a.timeout ≠ 0 → a.steps = a.timeout.toNat →
      (a.givenUp = true →
        exec .accessExpiry s =
          .next (State.raise { s with port := s.port.free s.timeBase } .downstreamTimeout d)) ∧
      (a.givenUp = false → a.who = .host → ∀ t : Txn, s.hbi.state = .inFlight t →
        ∃ u, exec .accessExpiry s = .next u ∧ u.inFlight = false ∧
          u.hbi.strobes = s.hbi.strobes ++ [{ hrd := some 0, hstb := false, hend := true, herr := true }] ∧
          u.port = s.port.free s.timeBase ∧ u.store = s.store ∧ u.roles = s.roles ∧ u.regions = s.regions ∧
          u.svp = s.svp ∧ u.scu.state = s.scu.state ∧
          u = State.endTransaction { s with port := s.port.free s.timeBase } t.dec false .failed
            [(.downstreamTimeout, d)] ∧
          u.events.sources[EventSource.downstreamTimeout.index] =
            s.events.sources[EventSource.downstreamTimeout.index].raised d ∧
          u.events.sources[EventSource.accessRefused.index] = s.events.sources[EventSource.accessRefused.index]) ∧
      (a.givenUp = false → a.who = .loader →
        s.loader.state = .header ∨ s.loader.state = .body → s.accounted →
        ∃ st : LineStore, s.store.tableReleased st (s.table .staged) ∧
          exec .accessExpiry s =
            .next (State.parseFailed (State.raise { s with port := s.port.free s.timeBase } .downstreamTimeout d) st
              .readTimeout (if s.loader.state = .body then headerGeneration s.loader.header else 0))) ∧
      (a.givenUp = false → a.who = .verifier → ∀ v : VerifyRun, s.scu.verifier = some v → v.starter = .verifySet →
        exec .accessExpiry s =
          .next (State.verifyDone (State.raise { s with port := s.port.free s.timeBase } .downstreamTimeout d)
            .originUnreadable s.scu.computedCrc)) ∧
      (a.givenUp = false → a.who = .verifier → ∀ v : VerifyRun, s.scu.verifier = some v →
        exec .accessExpiry s =
          .next (State.endVerification (State.raise { s with port := s.port.free s.timeBase } .downstreamTimeout d)
            .originUnreadable)))

/-- The loader takes a word, MD[7:0] at the lowest byte address (log 28). It collects eight header words; a header that
passes opens the body, or goes to its end with no record, and one that fails ends the load with the first failing reason. In
BODY it collects a record: a malformed fixed part or record, a duplicate and a SUBSTITUTE without a free line end the load;
any other record is placed in the lowest free slot with hit count 0. After the last one the lengths are compared: the load
fails, or the set is SEALED and its verification starts. Until then each word is followed by the request for the next one,
behind a waiting request's grant (log 15). A load that fails is discarded, with LOAD_RESULT or START_FAILED in stage PARSE.
Store words may be disturbed at any of them (log 6). -/
def Obligations.LoaderTakesItsWords : Prop :=
  ∀ (s : State) (a : Access) (md : Word) (us : List Upset) (k : LineStore), s.inReset = false →
    s.port.access = some a → a.who = .loader → a.givenUp = false → k = s.store.upset us →
    (s.loader.state = .header → s.loader.header.length + 4 < 32 →
      exec (.accessComplete md us) s =
        .next { s with
          store := k
          loader := { s.loader with header := s.loader.header ++ mdBytes md, cursor := s.loader.cursor + 4 }
          port := (s.port.free s.timeBase).request s.timeBase .loader
            (readRequest s.loader.ce (s.loader.cursor + 4) s.regions.background.wait) }) ∧
    (s.loader.state = .header → s.loader.header.length = 28 →
      ∀ (h : List Byte) (w : State), h = s.loader.header ++ mdBytes md →
        w = { s with
          store := k
          port := s.port.free s.timeBase
          loader := { s.loader with header := h, cursor := s.loader.cursor + 4 } } →
        (¬ headerGood h → s.accounted →
          ∀ reason : ParseReason,
            reason = (if field h 0 4 ≠ 0x3153505A then .badMagic
              else if byteAt h 4 ≠ 1 then .badVersion
              else if field h 30 2 ≠ (crc16 (h.take 30)).toNat then .badHeaderCrc
              else if 64 < (byteAt h 6).toNat then .badCount
              else .badHeaderField) →
            ∃ st : LineStore, k.tableReleased st (s.table .staged) ∧
              exec (.accessComplete md us) s = .next (w.parseFailed st reason 0)) ∧
        (headerGood h → byteAt h 6 ≠ 0 →
          exec (.accessComplete md us) s =
            .next { w with
              loader := { w.loader with state := .body, remaining := (byteAt h 6).toNat, sum := 0, record := [] }
              port := w.port.request w.timeBase .loader
                (readRequest w.loader.ce w.loader.cursor w.regions.background.wait) }) ∧
        (headerGood h → byteAt h 6 = 0 → ∀ w' : State,
          w' = { w with loader := { w.loader with state := .body, remaining := 0, sum := 0, record := [] } } →
          w'.bodyEnds (exec (.accessComplete md us) s))) ∧
    (s.loader.state = .body → ∀ (p : List Byte) (w : State), p = s.loader.record ++ mdBytes md →
      w = { s with
        store := k
        port := s.port.free s.timeBase
        loader := { s.loader with record := p, cursor := s.loader.cursor + 4 } } →
      (p.length < 8 ∨ (∃ r : EntryRecord, r.wellFormed = true ∧ r.bytes.take 8 = p.take 8 ∧ p.length < r.bytes.length) →
        exec (.accessComplete md us) s =
          .next { w with
            port := w.port.request w.timeBase .loader
              (readRequest w.loader.ce w.loader.cursor w.regions.background.wait) }) ∧
      ((p.length = 8 ∧ ∀ r : EntryRecord, r.wellFormed = true → r.bytes.take 8 ≠ p) ∨
          ((∃ r : EntryRecord, r.wellFormed = true ∧ r.bytes.take 8 = p.take 8 ∧ p.length = r.bytes.length) ∧
            ∀ r : EntryRecord, r.wellFormed = true → r.bytes ≠ p) → s.accounted →
        ∃ st : LineStore, k.tableReleased st (s.table .staged) ∧
          exec (.accessComplete md us) s =
            .next (w.parseFailed st .badRecord (headerGeneration s.loader.header))) ∧
      ∀ r : EntryRecord, r.wellFormed = true → p = r.bytes →
        ((∃ (j : Slot) (e : Entry), (s.table .staged).slots[j] = some e ∧ e.line = r.line) → s.accounted →
          ∃ st : LineStore, k.tableReleased st (s.table .staged) ∧
            exec (.accessComplete md us) s =
              .next (w.parseFailed st .duplicate (headerGeneration s.loader.header))) ∧
        ((∀ (j : Slot) (e : Entry), (s.table .staged).slots[j] = some e → e.line ≠ r.line) →
          ∀ i : Slot, (s.table .staged).slots[i] = none → (∀ j : Slot, j < i → (s.table .staged).slots[j] ≠ none) →
          (∀ mask data, r.body = .substitute mask data → k.freeList = [] → s.accounted →
            ∃ st : LineStore, k.tableReleased st (s.table .staged) ∧
              exec (.accessComplete md us) s =
                .next (w.parseFailed st .noLine (headerGeneration s.loader.header))) ∧
          (∀ (l : LineIdx) (st : LineStore) (fl : State),
            (match r.body with
              | .substitute mask data =>
                ∃ ls, k.freeList = l :: ls ∧ k.allocated st l ls mask data ∧ fl = w.freeLowTest ls.length
              | _ => st = k ∧ fl = w) →
            ∀ w' : State,
              w' = State.setTable
                { fl with
                  store := st
                  loader := { w.loader with
                    record := [], remaining := s.loader.remaining - 1, sum := s.loader.sum + r.bytes.length } }
                .staged ((s.table .staged).setSlot i (some (r.toEntry l))) →
              (2 ≤ s.loader.remaining →
                exec (.accessComplete md us) s =
                  .next { w' with
                    port := w'.port.request w'.timeBase .loader
                      (readRequest w'.loader.ce w'.loader.cursor w'.regions.background.wait) }) ∧
              (s.loader.remaining = 1 → w'.bodyEnds (exec (.accessComplete md us) s)))))

/-- The verifier takes an origin word, MD[7:0] at the lowest byte address (log 28): it asks for the entry's next word at its
mapped address, behind a waiting request's grant (log 15), or ends with ORIGIN_UNREADABLE where that is BLOCKED; after the
eighth word a CRC-16 that differs from the origin check ends with ORIGIN_MISMATCH, and an agreeing one leads on: at the last
entry to the comparison with the expected CRC, else over the entries still to visit, in one step (log 16), to the next one
with an origin check or to the end. All this for any starter, each verification ending by its starter's report; disturbed
store words are read as they are left (log 6). -/
def Obligations.VerifierTakesItsWords : Prop :=
  (∀ (s : State) (a : Access) (md : Word) (us : List Upset) (v : VerifyRun) (pre post : List (Slot × Entry))
    (i : Slot) (e : Entry) (o : BitVec 16) (s' : State),
    s.inReset = false → s.port.access = some a → a.who = .verifier → a.givenUp = false → s.scu.verifier = some v →
    v.starter = .verifySet → (s.table .staged).walk = pre ++ (i, e) :: post → v.passed = pre.length →
    e.origin = some o → s' = { s with store := s.store.upset us, port := s.port.free s.timeBase } →
    (∀ n c, n = 32 * e.line.toNat + 4 * (v.origin.length + 1) → c = s.regions.classify n → v.origin.length + 1 < 8 →
      (c.kind ≠ .blocked →
        exec (.accessComplete md us) s =
          .next { s with
            store := s.store.upset us
            scu := { s.scu with verifier := some { v with origin := v.origin ++ [md] } }
            port := (s.port.free s.timeBase).request s.timeBase .verifier
              (readRequest c.ce (BitVec.ofNat 26 (c.mapped n)) c.wait) }) ∧
      (c.kind = .blocked →
        exec (.accessComplete md us) s = .next (s'.verifyDone .originUnreadable s.scu.computedCrc))) ∧
    (v.origin.length = 7 → o ≠ crc16 ((v.origin ++ [md]).flatMap mdBytes) →
      exec (.accessComplete md us) s = .next (s'.verifyDone .originMismatch s.scu.computedCrc)) ∧
    (v.origin.length = 7 → o = crc16 ((v.origin ++ [md]).flatMap mdBytes) → post = [] →
      exec (.accessComplete md us) s =
        .next (s'.verifyDone
          (if crc32Final v.crc = (s.table .staged).expectedCrc then .ok else .crcMismatch) (crc32Final v.crc)))) ∧
  ∀ (s : State) (a : Access) (md : Word) (us : List Upset) (v : VerifyRun) (pre post : List (Slot × Entry))
    (i : Slot) (e : Entry) (o : BitVec 16) (w : State),
    s.inReset = false → s.port.access = some a → a.who = .verifier → a.givenUp = false → s.scu.verifier = some v →
    (s.table .staged).walk = pre ++ (i, e) :: post → v.passed = pre.length → e.origin = some o →
    w = { s with store := s.store.upset us, port := s.port.free s.timeBase } →
    (∀ n c, n = 32 * e.line.toNat + 4 * (v.origin.length + 1) → c = s.regions.classify n → v.origin.length + 1 < 8 →
      c.kind ≠ .blocked →
      exec (.accessComplete md us) s =
        .next { w with
          scu := { w.scu with verifier := some { v with origin := v.origin ++ [md] } }
          port := w.port.request w.timeBase .verifier
            (readRequest c.ce (BitVec.ofNat 26 (c.mapped n)) c.wait) }) ∧
    (v.origin.length + 1 < 8 →
      (s.regions.classify (32 * e.line.toNat + 4 * (v.origin.length + 1))).kind = .blocked →
      exec (.accessComplete md us) s = .next (w.endVerification .originUnreadable)) ∧
    (v.origin.length = 7 → o ≠ crc16 ((v.origin ++ [md]).flatMap mdBytes) →
      exec (.accessComplete md us) s = .next (w.endVerification .originMismatch)) ∧
    (v.origin.length = 7 → o = crc16 ((v.origin ++ [md]).flatMap mdBytes) →
      ∃ u, exec (.accessComplete md us) s = .next u ∧ w.walkGoesOn v.starter (pre.length + 1) post v.crc u)

/-- A verification starts at the entry of lowest line number with its result NONE, and goes over the entries, in one step
(log 16), to the first origin word it asks for or to its end. Its end writes the result and moves the set to VERIFIED or
FAILED; then VERIFY_DONE, LOAD_RESULT of a command load, START_FAILED of a start-up load, or, for a start-up load that is OK,
LOAD_RESULT and the request of its commit: GATED by its header or AT_BOUNDARY, behind a waiting REVERT after that. -/
def Obligations.VerificationStartsAndEnds : Prop :=
  (∀ (s w : State) (starter : VerifyStarter),
    w = State.setTable
      { s with scu := { s.scu with
          state := .verifying, verifier := some { starter := starter, passed := 0, crc := 0xFFFFFFFF, origin := [] } } }
      .staged { s.table .staged with result := .none } →
    w.walkGoesOn starter 0 (s.table .staged).walk 0xFFFFFFFF (s.startVerification starter)) ∧
  ∀ (s w : State) (v : VerifyRun) (res : VerifyResult) (gen : Generation), s.scu.verifier = some v →
    gen = headerGeneration s.loader.header →
    w = State.setTable
      { s with scu := { s.scu with state := if res = VerifyResult.ok then .verified else .failed, verifier := none } }
      .staged { s.table .staged with result := res } →
    (v.starter = .verifySet →
      s.endVerification res = w.raise .verifyDone
        (BitVec.ofNat 32 (res.code.toNat + 65536 * (s.table .staged).generation.toNat))) ∧
    (v.starter = .commandLoad →
      s.endVerification res =
        { State.raise w .loadResult (loadDetail 2 res.code.toNat gen) with loader := { s.loader with state := .idle } }) ∧
    (v.starter = .startUpLoad → res ≠ .ok →
      s.endVerification res = (w.raise .startFailed (loadDetail 2 res.code.toNat gen)).startUpOver) ∧
    (v.starter = .startUpLoad → res = .ok → ∀ (a : CommitArgs) (x : State),
      a = (if byteAt s.loader.header 5 = 1 ∧ s.hbi.held = false then
          { mode := .gated, gateBase := BitVec.ofNat 23 (field s.loader.header 12 3),
            gateLength := field s.loader.header 10 2, timeout := BitVec.ofNat 16 (field s.loader.header 16 2) }
        else { mode := .atBoundary, gateBase := 0, gateLength := 0, timeout := 0 }) →
      byteAt s.loader.header 5 = 0 ∨ byteAt s.loader.header 5 = 1 →
      x = { State.raise w .loadResult (loadDetail 2 res.code.toNat gen) with loader := { s.loader with state := .commit } } →
      (s.revertWaits = true → s.endVerification res = { x with scu := { x.scu with deferred := some a } }) ∧
      (s.revertWaits = false → (s.table .active).generation < (s.table .staged).generation → s.roles.distinct →
        x.startUpCommitArmed (s.endVerification res) a))

/-! ### Line store commands -/

/-- READ_ENTRY: a free slot answers NOT_FOUND with the entry count; an occupied one answers OK with its fields, the
word-check field and the masked words as read; a failing word of an unmarked line marks it and raises LINE_FAULT. The words
are read as any disturbances have left them (log 6). -/
def Obligations.ReadEntryReadsSlot : Prop :=
  (∀ (s d : State) (us : List Upset) (tag : Byte) (rest : List QueuedCommand) (r : Role) (i : Slot),
    d = { s with store := s.store.upset us } →
    s.offers 0x11 tag [r.code, BitVec.ofNat 8 i.val] rest →
    ((s.table r).slots[i] = none →
      exec (.readEntry us) s = .next (s.ended rest tag .notFound
        ([r.code, BitVec.ofNat 8 i.val] ++ leBytes 2 (s.table r).generation.toNat ++
          [BitVec.ofNat 8 (s.table r).count]))) ∧
    (∀ e : Entry, (s.table r).slots[i] = some e →
      match e.body with
      | .substitute mask l =>
        ∃ (check : Byte) (words : List Word),
          (∀ k : WordIdx, check.getLsbD k.val = (mask.getLsbD k.val && !d.store.lines[l].words[k].agrees)) ∧
          words.length = patchIndex mask 7 + (if mask.getLsbD 7 then 1 else 0) ∧
          (∀ k : WordIdx, mask.getLsbD k.val = true → words[patchIndex mask k]? = some d.store.lines[l].words[k].data) ∧
          exec (.readEntry us) s =
            .next (State.ended
              (if check ≠ 0 ∧ d.store.lines[l].bad = false then
                State.raise { d with store := d.store.setLine l { d.store.lines[l] with bad := true } } .lineFault
                  (BitVec.ofNat 32 l.val)
               else d) rest tag .ok
              ([r.code, BitVec.ofNat 8 i.val] ++ leBytes 2 (s.table r).generation.toNat ++
                leBytes 2 e.hitCount.toNat ++ [BitVec.ofNat 8 l.val, check] ++
                EntryRecord.bytes { line := e.line, body := .substitute mask words, origin := e.origin,
                                    report := e.reportFirstHit }))
      | .redirect ce target =>
        exec (.readEntry us) s =
          .next (d.ended rest tag .ok
            ([r.code, BitVec.ofNat 8 i.val] ++ leBytes 2 (s.table r).generation.toNat ++
              leBytes 2 e.hitCount.toNat ++ [0, 0] ++
              EntryRecord.bytes { line := e.line, body := .redirect ce target, origin := e.origin,
                                  report := e.reportFirstHit }))
      | .watch threshold dir =>
        exec (.readEntry us) s =
          .next (d.ended rest tag .ok
            ([r.code, BitVec.ofNat 8 i.val] ++ leBytes 2 (s.table r).generation.toNat ++
              leBytes 2 e.hitCount.toNat ++ [0, 0] ++
              EntryRecord.bytes { line := e.line, body := .watch threshold dir, origin := e.origin,
                                  report := e.reportFirstHit })))) ∧
  ∀ (s : State) (us : List Upset) (tag : Byte) (rest : List QueuedCommand) (p : List Byte), p.length = 2 →
    2 < (byteAt p 0).toNat ∨ 63 < (byteAt p 1).toNat → s.offers 0x11 tag p rest →
        exec (.readEntry us) s = .next (s.ended rest tag .badArgument [])

/-- SCRUB_LINE: BAD_ARGUMENT above 255, NOT_FOUND off the bad-line list; else the line's words become zero with fresh
check values and, when all eight pass the read-back, the line moves unmarked to the tail of the free list; a word
disturbed before its read-back (log 6) answers SCRUB_FAILED and the line stays where it was. -/
def Obligations.ScrubLineRestoresLine : Prop :=
  ∀ (s : State) (tag : Byte) (p : List Byte) (rest : List QueuedCommand), s.offers 0x15 tag p rest → p.length = 2 →
    (255 < field p 0 2 → ∀ us, exec (.scrubLine us) s = .next (s.ended rest tag .badArgument [])) ∧
    ∀ l : LineIdx, field p 0 2 = l.val →
      (l ∉ s.store.badList → ∀ us, exec (.scrubLine us) s = .next (s.ended rest tag .notFound [])) ∧
      (l ∈ s.store.badList → s.store.badList.Nodup →
        (∃ st : LineStore,
          (∀ k : WordIdx, st.lines[l].words[k] = ⟨0, true⟩) ∧ st.lines[l].bad = false ∧
          st.lines[l].refCount = s.store.lines[l].refCount ∧
          (∀ m : LineIdx, m ≠ l → st.lines[m] = s.store.lines[m]) ∧ st.threshold = s.store.threshold ∧
          st.freeList = s.store.freeList ++ [l] ∧ st.badList = s.store.badList.erase l ∧
          exec (.scrubLine []) s =
            .next (State.ended { s with store := st } rest tag .ok
              ([BitVec.ofNat 8 l.val, 0] ++ leBytes 2 (s.store.freeList.length + 1) ++
                leBytes 2 (s.store.badList.length - 1)))) ∧
        ∀ (k : WordIdx) (d : Word), ∃ st : LineStore,
          (∀ m : LineIdx, m ≠ l → st.lines[m] = s.store.lines[m]) ∧ st.lines[l].bad = s.store.lines[l].bad ∧
          st.lines[l].refCount = s.store.lines[l].refCount ∧ st.threshold = s.store.threshold ∧
          st.freeList = s.store.freeList ∧ st.badList = s.store.badList ∧
          exec (.scrubLine [⟨l, k, d, false⟩]) s =
            .next (State.ended { s with store := st } rest tag .scrubFailed
              ([BitVec.ofNat 8 l.val, BitVec.ofNat 8 (2 ^ k.val)] ++ leBytes 2 s.store.freeList.length ++
                leBytes 2 s.store.badList.length)))

/-- SET_FREE_THRESHOLD: a value above 255 is refused, any other becomes the threshold; the response carries the free
count, and no event is raised; both resets set the threshold to 0. -/
def Obligations.SetFreeThresholdSetsThreshold : Prop :=
  (∀ (s : State) (tag : Byte) (p : List Byte) (rest : List QueuedCommand), s.offers 0x16 tag p rest → p.length = 2 →
    (255 < field p 0 2 → exec .setFreeThreshold s = .next (s.ended rest tag .badArgument [])) ∧
    (field p 0 2 ≤ 255 →
      exec .setFreeThreshold s =
        .next (State.ended { s with store := { s.store with threshold := BitVec.ofNat 8 (field p 0 2) } } rest tag .ok
          (leBytes 2 s.store.freeList.length)))) ∧
  (∀ (s t : State) (b k : BitVec 2), s.inReset = true → exec (.pinResetEnd b k) s = .next t → t.store.threshold = 0) ∧
  ∀ s t : State, s.inReset = false → s.serviceResetDue = true → s.inFlight = false → exec .serviceReset s = .next t →
    t.store.threshold = 0

/-- The five status commands change nothing: QUERY_SETS, TRACE_STATUS, EVENT_STATUS, QUERY_STORE and IDENTIFY answer OK
with the bytes of their payload tables; the free count, the bad-line-list length and the referenced lines sum to 256. A line
index above 255 and a source that is not 1 to 14 are answered with BAD_ARGUMENT. -/
def Obligations.StatusCommandsReport : Prop :=
  (∀ (s : State) (tag : Byte) (rest : List QueuedCommand), s.offers 0x29 tag [] rest →
    ∃ p : List Byte, exec .querySets s = .next (s.ended rest tag .ok p) ∧ p.length = 44 ∧
      (∀ (r : Role) (off : Nat), off = (match r with | .active => 0 | .staged => 9 | .retained => 18) →
        byteAt p off = (s.roles.letter r).code ∧ field p (off + 1) 2 = (s.table r).generation.toNat ∧
        field p (off + 3) 4 = (s.table r).expectedCrc.toNat ∧ byteAt p (off + 7) = (s.table r).result.code ∧
        (byteAt p (off + 8)).toNat = (s.table r).count) ∧
      byteAt p 27 = s.scu.state.code ∧
      (s.scu.state = .loading → byteAt p 28 = (match s.loader.kind with | .command => 2 | .startUp => 3)) ∧
      (∀ v, s.scu.state = .verifying → s.scu.verifier = some v → v.passed < 256 →
        byteAt p 28 = v.starter.code ∧ (byteAt p 29).toNat = v.passed) ∧
      (s.scu.state ≠ .loading → s.scu.state ≠ .verifying → byteAt p 28 = 0) ∧
      byteAt p 30 = s.startPhase.code ∧
      (∀ pc, s.scu.commit = some pc → pc.args.gateLength < 65536 →
        byteAt p 31 = pc.args.mode.code ∧ field p 32 3 = pc.args.gateBase.toNat ∧
        field p 36 2 = pc.args.gateLength ∧ field p 38 2 = pc.args.timeout.toNat) ∧
      (s.scu.commit = none → field p 31 4 = 0 ∧ field p 36 4 = 0) ∧ byteAt p 35 = 0 ∧
      field p 40 4 = s.scu.computedCrc.toNat) ∧
  (∀ (s : State) (tag : Byte) (rest : List QueuedCommand), s.offers 0x65 tag [] rest → ∃ p : List Byte,
    exec .traceStatus s = .next (s.ended rest tag .ok p) ∧ p.length = 24 ∧ byteAt p 0 = s.trace.state.code ∧
    byteAt p 1 = s.trace.config.mode.code ∧ byteAt p 3 = s.trace.cause.code ∧
    (s.trace.records.length ≤ 512 → field p 4 2 = s.trace.records.length) ∧
    (∀ r rs, s.trace.records = r :: rs → field p 6 2 = r.seq.toNat ∧ (byteAt p 2).getLsbD 0 = true) ∧
    (s.trace.records = [] → field p 6 2 = 0 ∧ (byteAt p 2).getLsbD 0 = false) ∧
    field p 8 2 = s.trace.seq.toNat ∧ (s.trace.postRemaining ≤ 512 → field p 10 2 = s.trace.postRemaining) ∧
    (byteAt p 2).getLsbD 1 = s.trace.triggerSeq.isSome ∧ field p 12 2 = (s.trace.triggerSeq.getD 0).toNat ∧
    field p 16 4 = s.trace.overwritten.toNat ∧ field p 20 4 = s.timeBase.toNat) ∧
  (∀ (s : State) (tag : Byte) (rest : List QueuedCommand), s.offers 0x73 tag [] rest → s.events.fits →
    ∃ p : List Byte, exec .eventStatus s = .next (s.ended rest tag .ok p) ∧ p.length = 23 ∧
    (∀ i : Fin 14,
      (field p 0 2).testBit (i.val + 1) = s.events.sources[i].enable ∧
      (field p 2 2).testBit (i.val + 1) = s.events.sources[i].pending ∧
      (field p 4 2).testBit (i.val + 1) = (s.events.sources[i].enable && s.events.sources[i].pending &&
        decide (s.events.inService.headD 0 < s.events.sources[i].level)) ∧
      (byteAt p (6 + i.val)).toNat = s.events.sources[i].level) ∧
    (∀ l : Nat, 1 ≤ l → l ≤ 4 → ((byteAt p 20).getLsbD l = true ↔ l ∈ s.events.inService)) ∧
    (byteAt p 21).toNat = s.events.inService.headD 0 ∧ byteAt p 22 = flagByte s.alertLow) ∧
  (∀ (s : State) (tag : Byte) (rest : List QueuedCommand) (i : Fin 14),
    s.offers 0x73 tag [BitVec.ofNat 8 (i.val + 1)] rest →
    exec .eventStatus s = .next (s.ended rest tag .ok
      ([BitVec.ofNat 8 (i.val + 1), flagByte s.events.sources[i].enable, BitVec.ofNat 8 s.events.sources[i].level,
        flagByte s.events.sources[i].pending, s.events.sources[i].count, 0, 0, 0] ++
        wordBytes s.events.sources[i].detail))) ∧
  (∀ (s : State) (tag : Byte) (q : List Byte) (rest : List QueuedCommand), s.offers 0x14 tag q rest → s.accounted →
    ∀ l : LineIdx, q = [] ∨ q = [BitVec.ofNat 8 l.val, 0] → ∃ p : List Byte,
    exec .queryStore s = .next (s.ended rest tag .ok p) ∧ p.length = 26 + (if q = [] then 0 else 7) ∧
    field p 0 2 = s.store.freeList.length ∧ field p 2 2 = s.store.badList.length ∧
    field p 0 2 + field p 2 2 + field p 4 2 = 256 ∧ byteAt p 6 = s.store.threshold ∧
    (∀ m ms, s.store.freeList = m :: ms → byteAt p 7 = 1 ∧ (byteAt p 8).toNat = m.val) ∧
    (s.store.freeList = [] → byteAt p 7 = 0 ∧ byteAt p 8 = 0) ∧
    (byteAt p 9).toNat = min 16 s.store.badList.length ∧
    (∀ j < 16, (byteAt p (10 + j)).toNat = (s.store.badList[j]?.map (fun m => m.val)).getD 0) ∧
    (q ≠ [] → (byteAt p 26).toNat = l.val ∧ (byteAt p 27).toNat = s.store.lines[l].refCount ∧
      byteAt p 28 = flagByte s.store.lines[l].bad ∧
      (s.store.lines[l].refCount ≠ 0 → byteAt p 29 = 2 ∧ field p 30 2 = 0) ∧
      (∀ j, s.store.badList[j]? = some l → byteAt p 29 = 1 ∧ field p 30 2 = j) ∧
      (∀ j, s.store.freeList[j]? = some l → byteAt p 29 = 0 ∧ field p 30 2 = j) ∧
      ((byteAt p 32).getLsbD 0 = true ↔ (s.table .active).refs l ≠ 0) ∧
      ((byteAt p 32).getLsbD 1 = true ↔ (s.table .staged).refs l ≠ 0) ∧
      ((byteAt p 32).getLsbD 2 = true ↔ (s.table .retained).refs l ≠ 0))) ∧
  (∀ (s : State) (tag : Byte) (q : List Byte) (rest : List QueuedCommand),
    (s.offers 0x14 tag q rest → q.length = 2 → 255 < field q 0 2 →
      exec .queryStore s = .next (s.ended rest tag .badArgument [])) ∧
    (s.offers 0x73 tag q rest → q.length = 1 → byteAt q 0 = 0 ∨ 14 < (byteAt q 0).toNat →
      exec .eventStatus s = .next (s.ended rest tag .badArgument []))) ∧
  ∀ (s : State) (tag : Byte) (rest : List QueuedCommand), s.offers 0x02 tag [] rest →
    exec .identify s = .next (s.ended rest tag .ok
      [0x4C, 0x5A, 0x56, 0x02, 1, 1, 1, 0, 0, 1, 3, 64, 8, 14, 0, 2, 4, 8, s.straps.mode.code,
       s.straps.imgSel.setWidth 8, if s.hbi.held then 0 else if s.startUpInHand then 1 else 2])

/-! ### Trace -/

/-- TRACE_CONFIGURE replaces the whole configuration in OFF or STOPPED and refuses bytes that are no valid one;
TRACE_START starts capture there with post remaining at P and no trigger; both answer BUSY_STATE in other states. -/
def Obligations.TraceConfigureAndStart : Prop :=
  (∀ (s : State) (tag : Byte) (p : List Byte) (rest : List QueuedCommand), s.offers 0x60 tag p rest → p.length = 18 →
    (s.trace.state = .off ∨ s.trace.state = .stopped →
      (∀ c : TraceConfig, c.valid → p = c.bytes →
        exec .traceConfigure s =
          .next (State.ended { s with trace := { s.trace with config := c } } rest tag .ok [])) ∧
      ((∀ c : TraceConfig, c.valid → p ≠ c.bytes) →
        exec .traceConfigure s = .next (s.ended rest tag .badArgument []))) ∧
    (s.trace.state ≠ .off → s.trace.state ≠ .stopped →
      exec .traceConfigure s = .next (s.ended rest tag .busyState []))) ∧
  ∀ (s : State) (tag : Byte) (rest : List QueuedCommand), s.offers 0x61 tag [] rest →
    (s.trace.state = .off ∨ s.trace.state = .stopped → ∀ new : CaptureState,
      new = (if s.trace.config.mode = .triggered then .armed else .capturing) →
      exec .traceStart s =
        .next (State.ended
          { s with trace := { s.trace with
              state := new, cause := .none, triggerSeq := none, postRemaining := s.trace.config.post } }
          rest tag .ok ([new.code] ++ leBytes 2 s.trace.records.length))) ∧
    (s.trace.state ≠ .off → s.trace.state ≠ .stopped →
      exec .traceStart s = .next (s.ended rest tag .busyState []))

/-- TRACE_STOP stops capture without an event and answers the states before and after; TRACE_READ removes up to n
records from the head and returns them; TRACE_CLEAR empties the buffer and zeroes its counters. -/
def Obligations.TraceStopReadClear : Prop :=
  (∀ (s : State) (tag : Byte) (rest : List QueuedCommand), s.offers 0x62 tag [] rest →
    (s.trace.state = .capturing ∨ s.trace.state = .armed ∨ s.trace.state = .post →
      exec .traceStop s =
        .next (State.ended { s with trace := { s.trace with state := .stopped } } rest tag .ok
          [s.trace.state.code, CaptureState.stopped.code])) ∧
    (s.trace.state = .off ∨ s.trace.state = .stopped →
      exec .traceStop s = .next (s.ended rest tag .ok [s.trace.state.code, s.trace.state.code]))) ∧
  (∀ (s : State) (tag n : Byte) (rest : List QueuedCommand), s.offers 0x63 tag [n] rest →
    (n = 0 ∨ 3 < n.toNat → exec .traceRead s = .next (s.ended rest tag .badArgument [])) ∧
    (1 ≤ n.toNat → n.toNat ≤ 3 → ∀ out left : List TraceRecord, s.trace.records = out ++ left →
      out.length = min n.toNat s.trace.records.length →
      exec .traceRead s =
        .next (State.ended { s with trace := { s.trace with records := left } } rest tag .ok
          ([BitVec.ofNat 8 out.length] ++ out.flatMap TraceRecord.bytes)))) ∧
  (∀ r : TraceRecord, r.bytes.length = 16) ∧
  ∀ (s : State) (tag : Byte) (rest : List QueuedCommand), s.offers 0x64 tag [] rest →
    exec .traceClear s =
      .next (State.ended
        { s with trace := { s.trace with records := [], seq := 0, overwritten := 0, triggerSeq := none } }
        rest tag .ok (leBytes 2 s.trace.records.length))

/-- What becomes of an end report at the trace unit: dropped by the filter or in OFF and STOPPED; appended with the next
sequence number, the oldest record of a full buffer lost and counted; in mode STOP a full buffer stops capture; an
armed address trigger flags its record; in POST the record that brings post remaining to 0 stops capture. -/
def Obligations.EndReportReachesTrace : Prop :=
  ∀ (s : State) (r : EndReport) (app : Bool → TraceUnit) (inWindow : Bool), s.trace.records.length ≤ 512 →
    (∀ f, app f = { s.trace with
      records := (if s.trace.records.length = 512 then s.trace.records.drop 1 else s.trace.records) ++
        [⟨s.trace.seq, .access r f⟩]
      seq := s.trace.seq + 1
      overwritten := if s.trace.records.length = 512 ∧ s.trace.overwritten ≠ 0xFFFFFFFF then s.trace.overwritten + 1
        else s.trace.overwritten }) →
    (inWindow = true ↔ ∃ first last, s.trace.config.window = some (first, last) ∧ first.toNat ≤ r.addr.toNat / 8 ∧
      r.addr.toNat / 8 ≤ last.toNat) →
    (¬ (r.trace = true ∧ (if r.write then s.trace.config.dirWrite else s.trace.config.dirRead) = true ∧
        (if r.fetch then s.trace.config.kindFetch else s.trace.config.kindData) = true ∧
        s.trace.config.outcomes.getLsbD r.outcome.code = true) → s.traceReport r = s) ∧
    (s.trace.state = .off ∨ s.trace.state = .stopped → s.traceReport r = s) ∧
    (s.trace.config.passes r = true →
      (s.trace.state = .capturing → s.trace.config.mode ≠ .stop ∨ s.trace.records.length < 512 →
        s.traceReport r = { s with trace := app false }) ∧
      (∀ last, s.trace.state = .capturing → s.trace.config.mode = .stop → s.trace.records.length = 512 →
        s.trace.records.getLast? = some last →
        s.traceReport r = State.raise { s with trace := { s.trace with state := .stopped } } .traceStopped
          (BitVec.ofNat 32 (1 + 65536 * last.seq.toNat))) ∧
      (s.trace.state = .armed → inWindow = false → s.traceReport r = { s with trace := app false }) ∧
      (s.trace.state = .armed → inWindow = true →
        s.traceReport r = { s with trace := { app true with
          state := .post, cause := .address, triggerSeq := some s.trace.seq
          postRemaining := s.trace.config.post } }) ∧
      (s.trace.state = .post → 2 ≤ s.trace.postRemaining →
        s.traceReport r = { s with trace := { app false with postRemaining := s.trace.postRemaining - 1 } }) ∧
      (s.trace.state = .post → s.trace.postRemaining = 1 →
        s.traceReport r = State.raise { s with trace := { app false with state := .stopped, postRemaining := 0 } }
          .traceStopped (BitVec.ofNat 32 (2 + 65536 * s.trace.seq.toNat))))

/-! ### Events -/

/-- ALERTn is low exactly when a source is eligible; TAKE_EVENT takes the eligible source of highest level and lowest
number, clears it and puts its level in service, or answers NO_EVENT; FINISH_EVENT removes the highest level. -/
def Obligations.TakeAndFinishEvents : Prop :=
  ∀ (s : State) (eligible : Fin 14 → Prop), s.events.fits →
    (∀ i, eligible i ↔ s.events.sources[i].enable = true ∧ s.events.sources[i].pending = true ∧
      ∀ l ∈ s.events.inService, l < s.events.sources[i].level) →
    (s.alertLow = true ↔ s.inReset = false ∧ ∃ i, eligible i) ∧
    (∀ (tag : Byte) (rest : List QueuedCommand), s.offers 0x71 tag [] rest →
      ((∀ i, ¬ eligible i) →
        exec .takeEvent s = .next (s.ended rest tag .noEvent
          [BitVec.ofNat 8 (s.events.inService.headD 0),
           BitVec.ofNat 8 ((List.finRange 14).countP fun j => s.events.sources[j].pending)])) ∧
      (∀ (i : Fin 14) (x : SourceState), eligible i → x = s.events.sources[i] →
        (∀ j, eligible j → s.events.sources[j].level < x.level ∨ (s.events.sources[j].level = x.level ∧ i ≤ j)) →
        exec .takeEvent s =
          .next (State.ended
            { s with events :=
                { sources := s.events.sources.set i.val { x with pending := false, count := 0 } i.isLt
                  inService := x.level :: s.events.inService } } rest tag .ok
            ([BitVec.ofNat 8 (i.val + 1), BitVec.ofNat 8 x.level, x.count,
              BitVec.ofNat 8 ((List.finRange 14).countP fun j => j != i && s.events.sources[j].pending)] ++
              wordBytes x.detail)))) ∧
    (∀ (tag : Byte) (rest : List QueuedCommand), s.offers 0x72 tag [] rest →
      (s.events.inService = [] → exec .finishEvent s = .next (s.ended rest tag .notInService [])) ∧
      (∀ l ls, s.events.inService = l :: ls →
        exec .finishEvent s =
          .next (State.ended { s with events := { s.events with inService := ls } } rest tag .ok
            [BitVec.ofNat 8 l, BitVec.ofNat 8 (ls.headD 0)])))

/-- EVENT_CONFIG sets enable and level of a programmable source and refuses the fixed ones and other values; RAISE_EVENT
raises SOFTWARE with its value, counted up to 255, and fires the trigger of an armed trace unit that has it as source. -/
def Obligations.ConfigureAndRaiseEvents : Prop :=
  (∀ (s : State) (tag : Byte) (p : List Byte) (rest : List QueuedCommand), s.offers 0x70 tag p rest → p.length = 3 →
    (byteAt p 0 = 0 ∨ 12 < (byteAt p 0).toNat ∨ 1 < (byteAt p 1).toNat ∨ byteAt p 2 = 0 ∨ 3 < (byteAt p 2).toNat →
      exec .eventConfig s = .next (s.ended rest tag .badArgument [])) ∧
    (∀ (i : Fin 14) (enable : Bool) (level : Nat) (x : SourceState), i.val < 12 → 1 ≤ level → level ≤ 3 →
      p = [BitVec.ofNat 8 (i.val + 1), flagByte enable, BitVec.ofNat 8 level] → x = s.events.sources[i] →
      exec .eventConfig s =
        .next (State.ended
          { s with events := { s.events with
              sources := s.events.sources.set i.val { x with enable := enable, level := level } i.isLt } } rest tag .ok
          [BitVec.ofNat 8 (i.val + 1), flagByte x.enable, BitVec.ofNat 8 x.level, flagByte enable,
           BitVec.ofNat 8 level]))) ∧
  ∀ (s : State) (tag : Byte) (p : List Byte) (rest : List QueuedCommand) (x y : SourceState),
    s.offers 0x74 tag p rest → p.length = 4 → x = s.events.sources[EventSource.software.index] →
    y = { x with pending := true, count := BitVec.ofNat 8 (min 255 (x.count.toNat + 1))
                 detail := BitVec.ofNat 32 (field p 0 4) } →
    exec .raiseEvent s =
      .next (State.ended
        { s with
          events := { s.events with
            sources := s.events.sources.set EventSource.software.index.val y EventSource.software.index.isLt }
          trace := if s.trace.state = .armed ∧ s.trace.config.source = some .software then
              { s.trace with
                state := .post, cause := .event, postRemaining := s.trace.config.post
                triggerSeq := s.trace.records.getLast?.map fun r => r.seq }
            else s.trace } rest tag .ok [y.count])

/-! ### The service port -/

/-- A select period: at the fall of SSn the shifter empties and header and oldest response are chosen; as its bytes go by,
the header goes out and clears a reset-seen flag it carried, and the response leaves the queue at its last byte; at the
rise an undecided poll sets verdict POLL with tag 0, and a response cut short stays with its partial mark. How the bytes
are spread over the rows of the period makes no difference (log 12). A period that a pin reset leaves in progress is ignored:
no byte of it is received, and its rise sets no verdict and leaves the next fall to begin the first period. -/
def Obligations.SelectPeriodRuns : Prop :=
  (∀ s : State, s.svp.ssLow = false → s.inReset = false →
    exec .selectPeriodStart s =
      .next { s with svp := { s.svp with
        ssLow := true, ignoring := false, shifter := [], decided := false
        out := some
          { header := { resetSeen := s.svp.resetSeen, alert := s.alertLow, repeated := s.svp.partialMark,
                        verdict := s.svp.lastVerdict, tag := s.svp.lastTag, queued := s.svp.responses.length }
            response := s.svp.responses.head?, headerSent := false, live := !s.svp.responses.isEmpty } } }) ∧
  (∀ (s : State) (bs all : List Byte), s.inReset = false → s.svp.ssLow = true → s.svp.ignoring = false → s.periodFits →
    all = s.svp.shifter ++ bs → s.svp.decided = true ∨ undecidedBytes all →
    exec (.statusHeaderSent bs) s = .next { s with svp := { s.svp.clockedOut all.length with shifter := all } } ∧
    exec (.responseSent bs) s = .next { s with svp := { s.svp.clockedOut all.length with shifter := all } }) ∧
  (∀ (s : State) (bs all : List Byte) (o : OutStream), s.inReset = false → s.svp.ssLow = true → s.svp.ignoring = false →
    s.periodFits → s.svp.out = some o → all = s.svp.shifter ++ bs → s.svp.decided = true ∨ all.headD 0 = 0 →
    exec (.selectPeriodEnd bs) s =
      .next { s with svp := { s.svp.clockedOut all.length with
        ssLow := false, decided := false, out := none, shifter := all
        lastVerdict := if s.svp.decided then s.svp.lastVerdict else .poll
        lastTag := if s.svp.decided then s.svp.lastTag else 0
        partialMark := (s.svp.clockedOut all.length).partialMark || (o.live && o.response.any fun r =>
          decide (5 ≤ all.length ∧ all.length < 10 + r.payload.length)) } }) ∧
  (∀ (s : State) (bs : List Byte), s.inReset = false → s.svp.ssLow = true → s.svp.ignoring = true →
    exec (.statusHeaderSent bs) s = .next s ∧ exec (.responseSent bs) s = .next s ∧
    exec (.requestFrame bs) s = .next s ∧ exec (.malformedRequest bs) s = .next s ∧
    exec .selectPeriodStart s = .next s ∧
    exec (.selectPeriodEnd bs) s =
      .next { s with svp := { s.svp with ssLow := false, ignoring := false, decided := false, out := none } }) ∧
  ∀ (s t : State) (bs cs : List Byte), exec (.requestFrame bs) s = .next t →
    exec (.statusHeaderSent (bs ++ cs)) s = exec (.responseSent cs) t ∧
    exec (.requestFrame (bs ++ cs)) s = exec (.malformedRequest cs) t ∧
    exec (.selectPeriodEnd (bs ++ cs)) s = exec (.selectPeriodEnd cs) t

/-- A request frame is decided at its last CRC byte: queued with verdict ACCEPTED while fewer than 4 commands wait and
fewer than 8 items are held, else REFUSED_FULL. A response whose last byte comes before that byte has left, one whose last
byte comes later still counts, and where both are one byte either order is taken (log 11). A wrong CRC, a bad first byte, a
length above 56 or a frame cut short is refused with FRAME_ERROR. -/
def Obligations.RequestsAreDecided : Prop :=
  ∀ (s : State) (bs all : List Byte), s.inReset = false → s.svp.ssLow = true → s.svp.ignoring = false →
    s.periodFits → s.svp.decided = false → all = s.svp.shifter ++ bs →
    (∀ (c : QueuedCommand) (fill : List Byte), c.payload.length ≤ 56 → all = c.frame ++ fill →
      ∃ counted choices : Nat, (counted = c.frame.length - 1 ∨ counted = c.frame.length) ∧
        ((∀ o ∈ s.svp.out, ∀ r, o.response = some r → o.live = true → 10 + r.payload.length ≠ c.frame.length) →
          choices = s.orderChoices) ∧
        exec (.requestFrame bs) s =
          .next { s with
            orderChoices := choices
            svp :=
              if s.svp.commands.length < 4 ∧
                  (s.svp.clockedOut counted).responses.length + s.svp.commands.length +
                    (if s.svp.executing.isSome then 1 else 0) < 8 then
                { s.svp.clockedOut all.length with
                  shifter := all, commands := s.svp.commands ++ [c]
                  lastVerdict := .accepted, lastTag := c.tag, decided := true }
              else
                { s.svp.clockedOut all.length with
                  shifter := all, lastVerdict := .refusedFull, lastTag := c.tag, decided := true } }) ∧
    (∀ (tag code : Byte) (payload fill : List Byte) (x y : Byte), payload.length ≤ 56 →
      all = [0xA5, tag, code, BitVec.ofNat 8 payload.length] ++ payload ++ [x, y] ++ fill →
      x.toNat + 256 * y.toNat ≠ (crc16 ([tag, code, BitVec.ofNat 8 payload.length] ++ payload)).toNat →
      exec (.requestFrame bs) s =
        .next (State.raise { s with svp := { s.svp.clockedOut all.length with
          shifter := all, lastVerdict := .refusedCrc, lastTag := tag, decided := true } }
          .frameError (BitVec.ofNat 32 (2 + 256 * tag.toNat)))) ∧
    (∀ (b : Byte) (more : List Byte), all = b :: more → b ≠ 0 → b ≠ 0xA5 →
      exec (.malformedRequest bs) s =
        .next (State.raise { s with svp := { s.svp.clockedOut all.length with
          shifter := all, lastVerdict := .refusedFormat, lastTag := 0, decided := true } }
          .frameError (BitVec.ofNat 32 3))) ∧
    (∀ (tag code n : Byte) (more : List Byte), all = [0xA5, tag, code, n] ++ more → 56 < n.toNat →
      exec (.malformedRequest bs) s =
        .next (State.raise { s with svp := { s.svp.clockedOut all.length with
          shifter := all, lastVerdict := .refusedFormat, lastTag := tag, decided := true } }
          .frameError (BitVec.ofNat 32 (3 + 256 * tag.toNat)))) ∧
    (all.head? = some 0xA5 →
      all.length < 4 ∨ ((byteAt all 3).toNat ≤ 56 ∧ all.length < 6 + (byteAt all 3).toNat) →
      ∃ t, exec (.selectPeriodEnd bs) s = .next t ∧ t.svp.lastVerdict = .refusedFormat ∧ t.svp.lastTag = byteAt all 1 ∧
        t.svp.commands = s.svp.commands ∧ t.svp.ssLow = false ∧
        t.events.sources[EventSource.frameError.index] = s.events.sources[EventSource.frameError.index].raised
          (BitVec.ofNat 32 (3 + 256 * (byteAt all 1).toNat)))

/-- ECHO answers with OK and the same bytes, in the same order, and changes nothing else. -/
def Obligations.EchoAnswersItsBytes : Prop :=
  ∀ (s : State) (tag : Byte) (p : List Byte) (rest : List QueuedCommand), s.offers 0x01 tag p rest →
    exec .echo s = .next (s.ended rest tag .ok p)

/-- RESET_PART becomes the executing command, in every state (the service reset is a step of its own, also where the boundary
stands at once: log 18), and while it or a REVERT waits no service command executes; no service command touches the
transaction or what the host has been given; a code that no command has answers UNKNOWN_COMMAND. -/
def Obligations.ExecutorTakesOneCommand : Prop :=
  (∀ (s : State) (tag : Byte) (rest : List QueuedCommand), s.offers 0x03 tag [] rest →
    exec .resetPart s =
      .next { s with svp := { s.svp with commands := rest, executing := some { tag := tag, what := .resetPart } } }) ∧
  (∀ (c : Instr) (code : Byte) (s : State), commandCode c = some code → s.svp.executing.isSome = true →
    exec c s = .next s ∧ exec .unknownCommand s = .next s) ∧
  (∀ (c : Instr) (code : Byte) (s t : State), commandCode c = some code → exec c s = .next t →
    t.hbi.state = s.hbi.state ∧ t.hbi.nextRequest = s.hbi.nextRequest ∧ t.hbi.strobes = s.hbi.strobes ∧
    t.timeBase = s.timeBase ∧ t.inReset = s.inReset) ∧
  ∀ (s : State) (code tag : Byte) (p : List Byte) (rest : List QueuedCommand), s.offers code tag p rest →
    (∀ c : Instr, commandCode c ≠ some code) →
    exec .unknownCommand s = .next (s.ended rest tag .unknownCommand [])

/-! ### Encodings -/

/-- Entry records: a well-formed record parses from its own bytes, with every field at every value; and bytes that parse
are exactly the bytes of the well-formed record they parse to. -/
def Obligations.EntryRecordsRoundTrip : Prop :=
  (∀ r : EntryRecord, r.wellFormed = true → parseRecord r.bytes = some r) ∧
  ∀ (p : List Byte) (r : EntryRecord), parseRecord p = some r → r.wellFormed = true ∧ r.bytes = p

/-! ### What every step keeps -/

/-- The trace buffer holds at most 512 records with consecutive sequence numbers, the event levels stay in range and those
in service fall strictly, the service port never holds more than 4 commands and 8 items, the region records stay well
formed, no timer runs past its end, and a select period stands where its bytes have brought it: each is kept by every
step. -/
def Obligations.UnitsStayInBounds : Prop :=
  ∀ s t : State, step s = .next t →
    (s.trace.fits → t.trace.fits) ∧ (s.events.fits → t.events.fits) ∧ (s.svp.fits → t.svp.fits) ∧
    ((∀ i : Fin 8, s.regions.records[i].fits) → ∀ i : Fin 8, t.regions.records[i].fits) ∧
    (s.timersFit → t.timersFit) ∧ (s.periodFits → t.periodFits)

/-- Every step keeps the three roles on three tables, the staged set's record as its state has it, and the staged set, the
loader, the verification and the pending commit in step with each other. -/
def Obligations.ControlStaysTogether : Prop :=
  ∀ s t : State, s.wf → step s = .next t → t.controlled

/-- Every step keeps the line accounting: reference counts follow the entries, every line is in exactly one of its three
places, and no table names a line twice or holds two entries for a line number. -/
def Obligations.AccountingKept : Prop :=
  ∀ s t : State, s.wf → step s = .next t →
    t.accounted ∧ t.tables.a.keyed ∧ t.tables.b.keyed ∧ t.tables.c.keyed

/-- Every step keeps the host side: no transaction in flight while the host is held, the transaction in flight served under
the table that is still ACTIVE, and one request at the memory port for each agent that waits for memory. -/
def Obligations.HostAndPortStayTogether : Prop :=
  ∀ s t : State, s.wf → step s = .next t → t.heldIdle ∧ t.txnFits ∧ t.portFits

/-- The state after reset meets every one of these conditions. -/
def Obligations.ResetMeetsInvariants : Prop :=
  State.reset.wf ∧ State.reset.trace.fits ∧ State.reset.events.fits ∧ State.reset.svp.fits ∧
  (∀ i : Fin 8, State.reset.regions.records[i].fits) ∧ State.reset.timersFit ∧ State.reset.periodFits

end
end

