-- ==== Sys2Proof/Laws/Formats.lean ====
section
/-! SUPPORT. Little-endian fields, the codes of named values, and where a field of a structure lies. -/

namespace Sys2Proof.Machine

open Sys2Proof

/-! ### Little-endian fields -/

@[simp] theorem leBytes_length (n v : Nat) : (leBytes n v).length = n := by
  induction n generalizing v with
  | zero => rfl
  | succ n ih => simp [leBytes, ih]

theorem leNat_lt (bs : List Byte) : leNat bs < 256 ^ bs.length := by
  induction bs with
  | nil => simp [leNat]
  | cons b bs ih =>
    have hb := b.isLt
    simp only [leNat, List.length_cons, Nat.pow_succ]
    omega

/-- Reading back what has been written gives the value, modulo the room it was given. -/
theorem leNat_leBytes (n v : Nat) : leNat (leBytes n v) = v % 256 ^ n := by
  induction n generalizing v with
  | zero => simp [leNat, leBytes, Nat.mod_one]
  | succ n ih =>
    have h := Nat.mod_mul (a := 256) (b := 256 ^ n) (x := v)
    simp only [leBytes, leNat, ih, BitVec.toNat_ofNat, Nat.pow_succ]
    rw [Nat.mul_comm (256 ^ n) 256, h]

/-- Writing what has been read gives the bytes. -/
theorem leBytes_leNat (bs : List Byte) : leBytes bs.length (leNat bs) = bs := by
  induction bs with
  | nil => rfl
  | cons b bs ih =>
    have hb := b.isLt
    have h1 : (b.toNat + 256 * leNat bs) / 256 = leNat bs := by omega
    have h2 : BitVec.ofNat 8 (b.toNat + 256 * leNat bs) = b := by
      apply BitVec.eq_of_toNat_eq
      simp only [BitVec.toNat_ofNat]
      omega
    simp [leBytes, leNat, h1, h2, ih]

/-- A field that stands after a prefix. -/
theorem field_append (pre p : List Byte) (n off k : Nat) (h : off = pre.length + k) :
    field (pre ++ p) off n = field p k n := by
  subst h
  simp [field, List.drop_append, List.drop_eq_nil_of_le (Nat.le_add_right pre.length k)]

/-- A field at the head of a structure. -/
theorem field_leBytes (n v : Nat) (p : List Byte) : field (leBytes n v ++ p) 0 n = v % 256 ^ n := by
  simp [field, leNat_leBytes]

theorem byteAt_append (pre p : List Byte) (off k : Nat) (h : off = pre.length + k) :
    byteAt (pre ++ p) off = byteAt p k := by
  subst h
  simp [byteAt, List.getD_eq_getElem?_getD, List.getElem?_append_right]

@[simp] theorem byteAt_cons_zero (b : Byte) (p : List Byte) : byteAt (b :: p) 0 = b := rfl

@[simp] theorem byteAt_cons_succ (b : Byte) (p : List Byte) (k : Nat) : byteAt (b :: p) (k + 1) = byteAt p k := rfl

/-! ### Codes -/

@[simp] theorem Role.ofCode_code (x : Role) : Role.ofCode x.code = some x := by cases x <;> rfl
@[simp] theorem ChipEnable.ofCode_code (x : ChipEnable) : ChipEnable.ofCode x.code = some x := by cases x <;> rfl
@[simp] theorem EntryKind.ofCode_code (x : EntryKind) : EntryKind.ofCode x.code = some x := by cases x <;> rfl
@[simp] theorem WatchDir.ofCode_code (x : WatchDir) : WatchDir.ofCode x.code = some x := by cases x <;> rfl
@[simp] theorem RegionKind.ofCode_code (x : RegionKind) : RegionKind.ofCode x.code = some x := by cases x <;> rfl
@[simp] theorem WritePolicy.ofCode_code (x : WritePolicy) : WritePolicy.ofCode x.code = some x := by cases x <;> rfl
@[simp] theorem CommitMode.ofCode_code (x : CommitMode) : CommitMode.ofCode x.code = some x := by cases x <;> rfl
@[simp] theorem CaptureMode.ofCode_code (x : CaptureMode) : CaptureMode.ofCode x.code = some x := by cases x <;> rfl

/-- A kind code read is the code of the kind. -/
theorem EntryKind.code_of_ofCode (b : Byte) (k : EntryKind) (h : EntryKind.ofCode b = some k) : k.code = b := by
  unfold EntryKind.ofCode at h
  split at h
  · cases h; exact (‹b = 1›).symm
  · split at h
    · cases h; exact (‹b = 2›).symm
    · split at h
      · cases h; exact (‹b = 3›).symm
      · cases h

theorem ChipEnable.code_of_ofCode (b : Byte) (k : ChipEnable) (h : ChipEnable.ofCode b = some k) : k.code = b := by
  unfold ChipEnable.ofCode at h
  split at h
  · cases h; exact (‹b = 0›).symm
  · split at h
    · cases h; exact (‹b = 1›).symm
    · cases h

theorem WatchDir.code_of_ofCode (b : Byte) (k : WatchDir) (h : WatchDir.ofCode b = some k) : k.code = b := by
  unfold WatchDir.ofCode at h
  split at h
  · cases h; exact (‹b = 1›).symm
  · split at h
    · cases h; exact (‹b = 2›).symm
    · split at h
      · cases h; exact (‹b = 3›).symm
      · cases h

/-- A record lies between 8 and 44 bytes and is a whole number of words (R79). -/
theorem FixedPart.recordLength_bounds (f : FixedPart) :
    8 ≤ f.recordLength ∧ f.recordLength ≤ 44 ∧ f.recordLength % 4 = 0 := by
  have h : (maskedIdxs f.mask).length ≤ 8 := List.length_filter_le _ wordIdxs
  unfold FixedPart.recordLength
  cases f.hasOrigin <;> cases f.kind <;> simp <;> omega

end Sys2Proof.Machine
end

