-- ==== Sys2Proof/Laws/State.lean ====
section
/-! SUPPORT. One lemma per field of State that a shared operation leaves alone, and the spec of the field it writes
where one line says it. -/

namespace Sys2Proof.Machine

open Sys2Proof
section
variable (s : State) (src : EventSource) (d : Word)
@[simp] theorem State.raise_inReset : (s.raise src d).inReset = s.inReset := rfl
@[simp] theorem State.raise_straps : (s.raise src d).straps = s.straps := rfl
@[simp] theorem State.raise_timeBase : (s.raise src d).timeBase = s.timeBase := rfl
@[simp] theorem State.raise_hbi : (s.raise src d).hbi = s.hbi := rfl
@[simp] theorem State.raise_regions : (s.raise src d).regions = s.regions := rfl
@[simp] theorem State.raise_tables : (s.raise src d).tables = s.tables := rfl
@[simp] theorem State.raise_roles : (s.raise src d).roles = s.roles := rfl
@[simp] theorem State.raise_scu : (s.raise src d).scu = s.scu := rfl
@[simp] theorem State.raise_store : (s.raise src d).store = s.store := rfl
@[simp] theorem State.raise_loader : (s.raise src d).loader = s.loader := rfl
@[simp] theorem State.raise_port : (s.raise src d).port = s.port := rfl
@[simp] theorem State.raise_svp : (s.raise src d).svp = s.svp := rfl
@[simp] theorem State.raise_orderChoices : (s.raise src d).orderChoices = s.orderChoices := rfl
@[simp] theorem State.raise_pending : (s.raise src d).pending = s.pending := rfl
end
section
variable (s : State) (us : List Upset)
@[simp] theorem State.upset_inReset : (s.upset us).inReset = s.inReset := rfl
@[simp] theorem State.upset_straps : (s.upset us).straps = s.straps := rfl
@[simp] theorem State.upset_timeBase : (s.upset us).timeBase = s.timeBase := rfl
@[simp] theorem State.upset_hbi : (s.upset us).hbi = s.hbi := rfl
@[simp] theorem State.upset_regions : (s.upset us).regions = s.regions := rfl
@[simp] theorem State.upset_tables : (s.upset us).tables = s.tables := rfl
@[simp] theorem State.upset_roles : (s.upset us).roles = s.roles := rfl
@[simp] theorem State.upset_scu : (s.upset us).scu = s.scu := rfl
@[simp] theorem State.upset_loader : (s.upset us).loader = s.loader := rfl
@[simp] theorem State.upset_port : (s.upset us).port = s.port := rfl
@[simp] theorem State.upset_trace : (s.upset us).trace = s.trace := rfl
@[simp] theorem State.upset_events : (s.upset us).events = s.events := rfl
@[simp] theorem State.upset_svp : (s.upset us).svp = s.svp := rfl
@[simp] theorem State.upset_orderChoices : (s.upset us).orderChoices = s.orderChoices := rfl
@[simp] theorem State.upset_pending : (s.upset us).pending = s.pending := rfl
end
section
variable (s : State) (r : Role) (x : Table)
@[simp] theorem State.setTable_inReset : (s.setTable r x).inReset = s.inReset := rfl
@[simp] theorem State.setTable_straps : (s.setTable r x).straps = s.straps := rfl
@[simp] theorem State.setTable_timeBase : (s.setTable r x).timeBase = s.timeBase := rfl
@[simp] theorem State.setTable_hbi : (s.setTable r x).hbi = s.hbi := rfl
@[simp] theorem State.setTable_regions : (s.setTable r x).regions = s.regions := rfl
@[simp] theorem State.setTable_roles : (s.setTable r x).roles = s.roles := rfl
@[simp] theorem State.setTable_scu : (s.setTable r x).scu = s.scu := rfl
@[simp] theorem State.setTable_store : (s.setTable r x).store = s.store := rfl
@[simp] theorem State.setTable_loader : (s.setTable r x).loader = s.loader := rfl
@[simp] theorem State.setTable_port : (s.setTable r x).port = s.port := rfl
@[simp] theorem State.setTable_trace : (s.setTable r x).trace = s.trace := rfl
@[simp] theorem State.setTable_events : (s.setTable r x).events = s.events := rfl
@[simp] theorem State.setTable_svp : (s.setTable r x).svp = s.svp := rfl
@[simp] theorem State.setTable_orderChoices : (s.setTable r x).orderChoices = s.orderChoices := rfl
@[simp] theorem State.setTable_pending : (s.setTable r x).pending = s.pending := rfl
end
section
variable (s : State) (r : Role)
@[simp] theorem State.releaseRole_inReset : (s.releaseRole r).inReset = s.inReset := rfl
@[simp] theorem State.releaseRole_straps : (s.releaseRole r).straps = s.straps := rfl
@[simp] theorem State.releaseRole_timeBase : (s.releaseRole r).timeBase = s.timeBase := rfl
@[simp] theorem State.releaseRole_hbi : (s.releaseRole r).hbi = s.hbi := rfl
@[simp] theorem State.releaseRole_regions : (s.releaseRole r).regions = s.regions := rfl
@[simp] theorem State.releaseRole_roles : (s.releaseRole r).roles = s.roles := rfl
@[simp] theorem State.releaseRole_scu : (s.releaseRole r).scu = s.scu := rfl
@[simp] theorem State.releaseRole_loader : (s.releaseRole r).loader = s.loader := rfl
@[simp] theorem State.releaseRole_port : (s.releaseRole r).port = s.port := rfl
@[simp] theorem State.releaseRole_trace : (s.releaseRole r).trace = s.trace := rfl
@[simp] theorem State.releaseRole_events : (s.releaseRole r).events = s.events := rfl
@[simp] theorem State.releaseRole_svp : (s.releaseRole r).svp = s.svp := rfl
@[simp] theorem State.releaseRole_orderChoices : (s.releaseRole r).orderChoices = s.orderChoices := rfl
@[simp] theorem State.releaseRole_pending : (s.releaseRole r).pending = s.pending := rfl
end
section
variable (s : State) (who : Requester) (q : PortRequest)
@[simp] theorem State.request_inReset : (s.request who q).inReset = s.inReset := rfl
@[simp] theorem State.request_straps : (s.request who q).straps = s.straps := rfl
@[simp] theorem State.request_timeBase : (s.request who q).timeBase = s.timeBase := rfl
@[simp] theorem State.request_hbi : (s.request who q).hbi = s.hbi := rfl
@[simp] theorem State.request_regions : (s.request who q).regions = s.regions := rfl
@[simp] theorem State.request_tables : (s.request who q).tables = s.tables := rfl
@[simp] theorem State.request_roles : (s.request who q).roles = s.roles := rfl
@[simp] theorem State.request_scu : (s.request who q).scu = s.scu := rfl
@[simp] theorem State.request_store : (s.request who q).store = s.store := rfl
@[simp] theorem State.request_loader : (s.request who q).loader = s.loader := rfl
@[simp] theorem State.request_trace : (s.request who q).trace = s.trace := rfl
@[simp] theorem State.request_events : (s.request who q).events = s.events := rfl
@[simp] theorem State.request_svp : (s.request who q).svp = s.svp := rfl
@[simp] theorem State.request_orderChoices : (s.request who q).orderChoices = s.orderChoices := rfl
@[simp] theorem State.request_pending : (s.request who q).pending = s.pending := rfl
end
section
variable (s : State) (tag : Byte) (r : ResultCode) (p : List Byte)
@[simp] theorem State.respond_inReset : (s.respond tag r p).inReset = s.inReset := rfl
@[simp] theorem State.respond_straps : (s.respond tag r p).straps = s.straps := rfl
@[simp] theorem State.respond_timeBase : (s.respond tag r p).timeBase = s.timeBase := rfl
@[simp] theorem State.respond_hbi : (s.respond tag r p).hbi = s.hbi := rfl
@[simp] theorem State.respond_regions : (s.respond tag r p).regions = s.regions := rfl
@[simp] theorem State.respond_tables : (s.respond tag r p).tables = s.tables := rfl
@[simp] theorem State.respond_roles : (s.respond tag r p).roles = s.roles := rfl
@[simp] theorem State.respond_scu : (s.respond tag r p).scu = s.scu := rfl
@[simp] theorem State.respond_store : (s.respond tag r p).store = s.store := rfl
@[simp] theorem State.respond_loader : (s.respond tag r p).loader = s.loader := rfl
@[simp] theorem State.respond_port : (s.respond tag r p).port = s.port := rfl
@[simp] theorem State.respond_trace : (s.respond tag r p).trace = s.trace := rfl
@[simp] theorem State.respond_events : (s.respond tag r p).events = s.events := rfl
@[simp] theorem State.respond_orderChoices : (s.respond tag r p).orderChoices = s.orderChoices := rfl
@[simp] theorem State.respond_pending : (s.respond tag r p).pending = s.pending := rfl
end
section
variable (s : State) (rest : List QueuedCommand) (tag : Byte) (r : ResultCode) (p : List Byte)
@[simp] theorem State.ended_inReset : (s.ended rest tag r p).inReset = s.inReset := rfl
@[simp] theorem State.ended_straps : (s.ended rest tag r p).straps = s.straps := rfl
@[simp] theorem State.ended_timeBase : (s.ended rest tag r p).timeBase = s.timeBase := rfl
@[simp] theorem State.ended_hbi : (s.ended rest tag r p).hbi = s.hbi := rfl
@[simp] theorem State.ended_regions : (s.ended rest tag r p).regions = s.regions := rfl
@[simp] theorem State.ended_tables : (s.ended rest tag r p).tables = s.tables := rfl
@[simp] theorem State.ended_roles : (s.ended rest tag r p).roles = s.roles := rfl
@[simp] theorem State.ended_scu : (s.ended rest tag r p).scu = s.scu := rfl
@[simp] theorem State.ended_store : (s.ended rest tag r p).store = s.store := rfl
@[simp] theorem State.ended_loader : (s.ended rest tag r p).loader = s.loader := rfl
@[simp] theorem State.ended_port : (s.ended rest tag r p).port = s.port := rfl
@[simp] theorem State.ended_trace : (s.ended rest tag r p).trace = s.trace := rfl
@[simp] theorem State.ended_events : (s.ended rest tag r p).events = s.events := rfl
@[simp] theorem State.ended_orderChoices : (s.ended rest tag r p).orderChoices = s.orderChoices := rfl
@[simp] theorem State.ended_pending : (s.ended rest tag r p).pending = s.pending := rfl
end
section
variable (s : State) (rest : List QueuedCommand)
@[simp] theorem State.taken_inReset : (s.taken rest).inReset = s.inReset := rfl
@[simp] theorem State.taken_straps : (s.taken rest).straps = s.straps := rfl
@[simp] theorem State.taken_timeBase : (s.taken rest).timeBase = s.timeBase := rfl
@[simp] theorem State.taken_hbi : (s.taken rest).hbi = s.hbi := rfl
@[simp] theorem State.taken_regions : (s.taken rest).regions = s.regions := rfl
@[simp] theorem State.taken_tables : (s.taken rest).tables = s.tables := rfl
@[simp] theorem State.taken_roles : (s.taken rest).roles = s.roles := rfl
@[simp] theorem State.taken_scu : (s.taken rest).scu = s.scu := rfl
@[simp] theorem State.taken_store : (s.taken rest).store = s.store := rfl
@[simp] theorem State.taken_loader : (s.taken rest).loader = s.loader := rfl
@[simp] theorem State.taken_port : (s.taken rest).port = s.port := rfl
@[simp] theorem State.taken_trace : (s.taken rest).trace = s.trace := rfl
@[simp] theorem State.taken_events : (s.taken rest).events = s.events := rfl
@[simp] theorem State.taken_orderChoices : (s.taken rest).orderChoices = s.orderChoices := rfl
@[simp] theorem State.taken_pending : (s.taken rest).pending = s.pending := rfl
end
section
variable (s : State) (x : HostStrobe)
@[simp] theorem State.strobe_inReset : (s.strobe x).inReset = s.inReset := rfl
@[simp] theorem State.strobe_straps : (s.strobe x).straps = s.straps := rfl
@[simp] theorem State.strobe_timeBase : (s.strobe x).timeBase = s.timeBase := rfl
@[simp] theorem State.strobe_regions : (s.strobe x).regions = s.regions := rfl
@[simp] theorem State.strobe_tables : (s.strobe x).tables = s.tables := rfl
@[simp] theorem State.strobe_roles : (s.strobe x).roles = s.roles := rfl
@[simp] theorem State.strobe_scu : (s.strobe x).scu = s.scu := rfl
@[simp] theorem State.strobe_store : (s.strobe x).store = s.store := rfl
@[simp] theorem State.strobe_loader : (s.strobe x).loader = s.loader := rfl
@[simp] theorem State.strobe_port : (s.strobe x).port = s.port := rfl
@[simp] theorem State.strobe_trace : (s.strobe x).trace = s.trace := rfl
@[simp] theorem State.strobe_events : (s.strobe x).events = s.events := rfl
@[simp] theorem State.strobe_svp : (s.strobe x).svp = s.svp := rfl
@[simp] theorem State.strobe_orderChoices : (s.strobe x).orderChoices = s.orderChoices := rfl
@[simp] theorem State.strobe_pending : (s.strobe x).pending = s.pending := rfl
end
section
variable (s : State) 
@[simp] theorem State.leaveFlight_inReset : (s.leaveFlight).inReset = s.inReset := rfl
@[simp] theorem State.leaveFlight_straps : (s.leaveFlight).straps = s.straps := rfl
@[simp] theorem State.leaveFlight_timeBase : (s.leaveFlight).timeBase = s.timeBase := rfl
@[simp] theorem State.leaveFlight_regions : (s.leaveFlight).regions = s.regions := rfl
@[simp] theorem State.leaveFlight_tables : (s.leaveFlight).tables = s.tables := rfl
@[simp] theorem State.leaveFlight_roles : (s.leaveFlight).roles = s.roles := rfl
@[simp] theorem State.leaveFlight_scu : (s.leaveFlight).scu = s.scu := rfl
@[simp] theorem State.leaveFlight_store : (s.leaveFlight).store = s.store := rfl
@[simp] theorem State.leaveFlight_loader : (s.leaveFlight).loader = s.loader := rfl
@[simp] theorem State.leaveFlight_port : (s.leaveFlight).port = s.port := rfl
@[simp] theorem State.leaveFlight_trace : (s.leaveFlight).trace = s.trace := rfl
@[simp] theorem State.leaveFlight_events : (s.leaveFlight).events = s.events := rfl
@[simp] theorem State.leaveFlight_svp : (s.leaveFlight).svp = s.svp := rfl
@[simp] theorem State.leaveFlight_orderChoices : (s.leaveFlight).orderChoices = s.orderChoices := rfl
@[simp] theorem State.leaveFlight_pending : (s.leaveFlight).pending = s.pending := rfl
end
section
variable (s : State) 
@[simp] theorem State.freePort_inReset : (s.freePort).inReset = s.inReset := rfl
@[simp] theorem State.freePort_straps : (s.freePort).straps = s.straps := rfl
@[simp] theorem State.freePort_timeBase : (s.freePort).timeBase = s.timeBase := rfl
@[simp] theorem State.freePort_hbi : (s.freePort).hbi = s.hbi := rfl
@[simp] theorem State.freePort_regions : (s.freePort).regions = s.regions := rfl
@[simp] theorem State.freePort_tables : (s.freePort).tables = s.tables := rfl
@[simp] theorem State.freePort_roles : (s.freePort).roles = s.roles := rfl
@[simp] theorem State.freePort_scu : (s.freePort).scu = s.scu := rfl
@[simp] theorem State.freePort_store : (s.freePort).store = s.store := rfl
@[simp] theorem State.freePort_loader : (s.freePort).loader = s.loader := rfl
@[simp] theorem State.freePort_trace : (s.freePort).trace = s.trace := rfl
@[simp] theorem State.freePort_events : (s.freePort).events = s.events := rfl
@[simp] theorem State.freePort_svp : (s.freePort).svp = s.svp := rfl
@[simp] theorem State.freePort_orderChoices : (s.freePort).orderChoices = s.orderChoices := rfl
@[simp] theorem State.freePort_pending : (s.freePort).pending = s.pending := rfl
end
section
variable (s : State) 
@[simp] theorem State.loaderRequest_inReset : (s.loaderRequest).inReset = s.inReset := rfl
@[simp] theorem State.loaderRequest_straps : (s.loaderRequest).straps = s.straps := rfl
@[simp] theorem State.loaderRequest_timeBase : (s.loaderRequest).timeBase = s.timeBase := rfl
@[simp] theorem State.loaderRequest_hbi : (s.loaderRequest).hbi = s.hbi := rfl
@[simp] theorem State.loaderRequest_regions : (s.loaderRequest).regions = s.regions := rfl
@[simp] theorem State.loaderRequest_tables : (s.loaderRequest).tables = s.tables := rfl
@[simp] theorem State.loaderRequest_roles : (s.loaderRequest).roles = s.roles := rfl
@[simp] theorem State.loaderRequest_scu : (s.loaderRequest).scu = s.scu := rfl
@[simp] theorem State.loaderRequest_store : (s.loaderRequest).store = s.store := rfl
@[simp] theorem State.loaderRequest_loader : (s.loaderRequest).loader = s.loader := rfl
@[simp] theorem State.loaderRequest_trace : (s.loaderRequest).trace = s.trace := rfl
@[simp] theorem State.loaderRequest_events : (s.loaderRequest).events = s.events := rfl
@[simp] theorem State.loaderRequest_svp : (s.loaderRequest).svp = s.svp := rfl
@[simp] theorem State.loaderRequest_orderChoices : (s.loaderRequest).orderChoices = s.orderChoices := rfl
@[simp] theorem State.loaderRequest_pending : (s.loaderRequest).pending = s.pending := rfl
end
section
variable (s : State) (l : LineIdx)
@[simp] theorem State.release_inReset : (s.release l).inReset = s.inReset := rfl
@[simp] theorem State.release_straps : (s.release l).straps = s.straps := rfl
@[simp] theorem State.release_timeBase : (s.release l).timeBase = s.timeBase := rfl
@[simp] theorem State.release_hbi : (s.release l).hbi = s.hbi := rfl
@[simp] theorem State.release_regions : (s.release l).regions = s.regions := rfl
@[simp] theorem State.release_tables : (s.release l).tables = s.tables := rfl
@[simp] theorem State.release_roles : (s.release l).roles = s.roles := rfl
@[simp] theorem State.release_scu : (s.release l).scu = s.scu := rfl
@[simp] theorem State.release_loader : (s.release l).loader = s.loader := rfl
@[simp] theorem State.release_port : (s.release l).port = s.port := rfl
@[simp] theorem State.release_trace : (s.release l).trace = s.trace := rfl
@[simp] theorem State.release_events : (s.release l).events = s.events := rfl
@[simp] theorem State.release_svp : (s.release l).svp = s.svp := rfl
@[simp] theorem State.release_orderChoices : (s.release l).orderChoices = s.orderChoices := rfl
@[simp] theorem State.release_pending : (s.release l).pending = s.pending := rfl
end
section
variable (s : State) 
@[simp] theorem State.endStartUpLoad_inReset : (s.endStartUpLoad).inReset = s.inReset := rfl
@[simp] theorem State.endStartUpLoad_straps : (s.endStartUpLoad).straps = s.straps := rfl
@[simp] theorem State.endStartUpLoad_timeBase : (s.endStartUpLoad).timeBase = s.timeBase := rfl
@[simp] theorem State.endStartUpLoad_regions : (s.endStartUpLoad).regions = s.regions := rfl
@[simp] theorem State.endStartUpLoad_tables : (s.endStartUpLoad).tables = s.tables := rfl
@[simp] theorem State.endStartUpLoad_roles : (s.endStartUpLoad).roles = s.roles := rfl
@[simp] theorem State.endStartUpLoad_scu : (s.endStartUpLoad).scu = s.scu := rfl
@[simp] theorem State.endStartUpLoad_store : (s.endStartUpLoad).store = s.store := rfl
@[simp] theorem State.endStartUpLoad_port : (s.endStartUpLoad).port = s.port := rfl
@[simp] theorem State.endStartUpLoad_trace : (s.endStartUpLoad).trace = s.trace := rfl
@[simp] theorem State.endStartUpLoad_events : (s.endStartUpLoad).events = s.events := rfl
@[simp] theorem State.endStartUpLoad_svp : (s.endStartUpLoad).svp = s.svp := rfl
@[simp] theorem State.endStartUpLoad_orderChoices : (s.endStartUpLoad).orderChoices = s.orderChoices := rfl
@[simp] theorem State.endStartUpLoad_pending : (s.endStartUpLoad).pending = s.pending := rfl
end
section
variable (s : State) (b : Byte)
@[simp] theorem State.startUpCommitFailed_inReset : (s.startUpCommitFailed b).inReset = s.inReset := rfl
@[simp] theorem State.startUpCommitFailed_straps : (s.startUpCommitFailed b).straps = s.straps := rfl
@[simp] theorem State.startUpCommitFailed_timeBase : (s.startUpCommitFailed b).timeBase = s.timeBase := rfl
@[simp] theorem State.startUpCommitFailed_regions : (s.startUpCommitFailed b).regions = s.regions := rfl
@[simp] theorem State.startUpCommitFailed_tables : (s.startUpCommitFailed b).tables = s.tables := rfl
@[simp] theorem State.startUpCommitFailed_roles : (s.startUpCommitFailed b).roles = s.roles := rfl
@[simp] theorem State.startUpCommitFailed_scu : (s.startUpCommitFailed b).scu = s.scu := rfl
@[simp] theorem State.startUpCommitFailed_store : (s.startUpCommitFailed b).store = s.store := rfl
@[simp] theorem State.startUpCommitFailed_port : (s.startUpCommitFailed b).port = s.port := rfl
@[simp] theorem State.startUpCommitFailed_svp : (s.startUpCommitFailed b).svp = s.svp := rfl
@[simp] theorem State.startUpCommitFailed_orderChoices : (s.startUpCommitFailed b).orderChoices = s.orderChoices := rfl
@[simp] theorem State.startUpCommitFailed_pending : (s.startUpCommitFailed b).pending = s.pending := rfl
end
section
variable (s : State) 
@[simp] theorem State.withdrawCommit_inReset : (s.withdrawCommit).inReset = s.inReset := rfl
@[simp] theorem State.withdrawCommit_straps : (s.withdrawCommit).straps = s.straps := rfl
@[simp] theorem State.withdrawCommit_timeBase : (s.withdrawCommit).timeBase = s.timeBase := rfl
@[simp] theorem State.withdrawCommit_hbi : (s.withdrawCommit).hbi = s.hbi := rfl
@[simp] theorem State.withdrawCommit_regions : (s.withdrawCommit).regions = s.regions := rfl
@[simp] theorem State.withdrawCommit_tables : (s.withdrawCommit).tables = s.tables := rfl
@[simp] theorem State.withdrawCommit_roles : (s.withdrawCommit).roles = s.roles := rfl
@[simp] theorem State.withdrawCommit_store : (s.withdrawCommit).store = s.store := rfl
@[simp] theorem State.withdrawCommit_loader : (s.withdrawCommit).loader = s.loader := rfl
@[simp] theorem State.withdrawCommit_port : (s.withdrawCommit).port = s.port := rfl
@[simp] theorem State.withdrawCommit_trace : (s.withdrawCommit).trace = s.trace := rfl
@[simp] theorem State.withdrawCommit_events : (s.withdrawCommit).events = s.events := rfl
@[simp] theorem State.withdrawCommit_svp : (s.withdrawCommit).svp = s.svp := rfl
@[simp] theorem State.withdrawCommit_orderChoices : (s.withdrawCommit).orderChoices = s.orderChoices := rfl
@[simp] theorem State.withdrawCommit_pending : (s.withdrawCommit).pending = s.pending := rfl
end
section
variable (s : State) (k : LoadKind) (ce : ChipEnable) (a : DownAddr)
@[simp] theorem State.beginLoad_inReset : (s.beginLoad k ce a).inReset = s.inReset := rfl
@[simp] theorem State.beginLoad_straps : (s.beginLoad k ce a).straps = s.straps := rfl
@[simp] theorem State.beginLoad_timeBase : (s.beginLoad k ce a).timeBase = s.timeBase := rfl
@[simp] theorem State.beginLoad_hbi : (s.beginLoad k ce a).hbi = s.hbi := rfl
@[simp] theorem State.beginLoad_regions : (s.beginLoad k ce a).regions = s.regions := rfl
@[simp] theorem State.beginLoad_tables : (s.beginLoad k ce a).tables = s.tables := rfl
@[simp] theorem State.beginLoad_roles : (s.beginLoad k ce a).roles = s.roles := rfl
@[simp] theorem State.beginLoad_store : (s.beginLoad k ce a).store = s.store := rfl
@[simp] theorem State.beginLoad_trace : (s.beginLoad k ce a).trace = s.trace := rfl
@[simp] theorem State.beginLoad_events : (s.beginLoad k ce a).events = s.events := rfl
@[simp] theorem State.beginLoad_svp : (s.beginLoad k ce a).svp = s.svp := rfl
@[simp] theorem State.beginLoad_orderChoices : (s.beginLoad k ce a).orderChoices = s.orderChoices := rfl
@[simp] theorem State.beginLoad_pending : (s.beginLoad k ce a).pending = s.pending := rfl
end
section
variable (s : State) (b : Byte)
@[simp] theorem State.shiftIn_inReset : (s.shiftIn b).inReset = s.inReset := rfl
@[simp] theorem State.shiftIn_straps : (s.shiftIn b).straps = s.straps := rfl
@[simp] theorem State.shiftIn_timeBase : (s.shiftIn b).timeBase = s.timeBase := rfl
@[simp] theorem State.shiftIn_hbi : (s.shiftIn b).hbi = s.hbi := rfl
@[simp] theorem State.shiftIn_regions : (s.shiftIn b).regions = s.regions := rfl
@[simp] theorem State.shiftIn_tables : (s.shiftIn b).tables = s.tables := rfl
@[simp] theorem State.shiftIn_roles : (s.shiftIn b).roles = s.roles := rfl
@[simp] theorem State.shiftIn_scu : (s.shiftIn b).scu = s.scu := rfl
@[simp] theorem State.shiftIn_store : (s.shiftIn b).store = s.store := rfl
@[simp] theorem State.shiftIn_loader : (s.shiftIn b).loader = s.loader := rfl
@[simp] theorem State.shiftIn_port : (s.shiftIn b).port = s.port := rfl
@[simp] theorem State.shiftIn_trace : (s.shiftIn b).trace = s.trace := rfl
@[simp] theorem State.shiftIn_events : (s.shiftIn b).events = s.events := rfl
@[simp] theorem State.shiftIn_orderChoices : (s.shiftIn b).orderChoices = s.orderChoices := rfl
@[simp] theorem State.shiftIn_pending : (s.shiftIn b).pending = s.pending := rfl
end
section
variable (s : State) (v : Verdict) (tag : Byte)
@[simp] theorem State.setVerdict_inReset : (s.setVerdict v tag).inReset = s.inReset := rfl
@[simp] theorem State.setVerdict_straps : (s.setVerdict v tag).straps = s.straps := rfl
@[simp] theorem State.setVerdict_timeBase : (s.setVerdict v tag).timeBase = s.timeBase := rfl
@[simp] theorem State.setVerdict_hbi : (s.setVerdict v tag).hbi = s.hbi := rfl
@[simp] theorem State.setVerdict_regions : (s.setVerdict v tag).regions = s.regions := rfl
@[simp] theorem State.setVerdict_tables : (s.setVerdict v tag).tables = s.tables := rfl
@[simp] theorem State.setVerdict_roles : (s.setVerdict v tag).roles = s.roles := rfl
@[simp] theorem State.setVerdict_scu : (s.setVerdict v tag).scu = s.scu := rfl
@[simp] theorem State.setVerdict_store : (s.setVerdict v tag).store = s.store := rfl
@[simp] theorem State.setVerdict_loader : (s.setVerdict v tag).loader = s.loader := rfl
@[simp] theorem State.setVerdict_port : (s.setVerdict v tag).port = s.port := rfl
@[simp] theorem State.setVerdict_trace : (s.setVerdict v tag).trace = s.trace := rfl
@[simp] theorem State.setVerdict_events : (s.setVerdict v tag).events = s.events := rfl
@[simp] theorem State.setVerdict_orderChoices : (s.setVerdict v tag).orderChoices = s.orderChoices := rfl
@[simp] theorem State.setVerdict_pending : (s.setVerdict v tag).pending = s.pending := rfl
end
section
variable (s : State) (l : LineIdx)
@[simp] theorem State.lineFailed_inReset : (s.lineFailed l).inReset = s.inReset := by unfold State.lineFailed; split <;> rfl
@[simp] theorem State.lineFailed_straps : (s.lineFailed l).straps = s.straps := by unfold State.lineFailed; split <;> rfl
@[simp] theorem State.lineFailed_timeBase : (s.lineFailed l).timeBase = s.timeBase := by unfold State.lineFailed; split <;> rfl
@[simp] theorem State.lineFailed_hbi : (s.lineFailed l).hbi = s.hbi := by unfold State.lineFailed; split <;> rfl
@[simp] theorem State.lineFailed_regions : (s.lineFailed l).regions = s.regions := by unfold State.lineFailed; split <;> rfl
@[simp] theorem State.lineFailed_tables : (s.lineFailed l).tables = s.tables := by unfold State.lineFailed; split <;> rfl
@[simp] theorem State.lineFailed_roles : (s.lineFailed l).roles = s.roles := by unfold State.lineFailed; split <;> rfl
@[simp] theorem State.lineFailed_scu : (s.lineFailed l).scu = s.scu := by unfold State.lineFailed; split <;> rfl
@[simp] theorem State.lineFailed_loader : (s.lineFailed l).loader = s.loader := by unfold State.lineFailed; split <;> rfl
@[simp] theorem State.lineFailed_port : (s.lineFailed l).port = s.port := by unfold State.lineFailed; split <;> rfl
@[simp] theorem State.lineFailed_svp : (s.lineFailed l).svp = s.svp := by unfold State.lineFailed; split <;> rfl
@[simp] theorem State.lineFailed_orderChoices : (s.lineFailed l).orderChoices = s.orderChoices := by unfold State.lineFailed; split <;> rfl
@[simp] theorem State.lineFailed_pending : (s.lineFailed l).pending = s.pending := by unfold State.lineFailed; split <;> rfl
end
section
variable (s : State) (l : LineIdx) (is : List WordIdx)
@[simp] theorem State.testWords_inReset : (s.testWords l is).inReset = s.inReset := by unfold State.testWords; split <;> simp
@[simp] theorem State.testWords_straps : (s.testWords l is).straps = s.straps := by unfold State.testWords; split <;> simp
@[simp] theorem State.testWords_timeBase : (s.testWords l is).timeBase = s.timeBase := by unfold State.testWords; split <;> simp
@[simp] theorem State.testWords_hbi : (s.testWords l is).hbi = s.hbi := by unfold State.testWords; split <;> simp
@[simp] theorem State.testWords_regions : (s.testWords l is).regions = s.regions := by unfold State.testWords; split <;> simp
@[simp] theorem State.testWords_tables : (s.testWords l is).tables = s.tables := by unfold State.testWords; split <;> simp
@[simp] theorem State.testWords_roles : (s.testWords l is).roles = s.roles := by unfold State.testWords; split <;> simp
@[simp] theorem State.testWords_scu : (s.testWords l is).scu = s.scu := by unfold State.testWords; split <;> simp
@[simp] theorem State.testWords_loader : (s.testWords l is).loader = s.loader := by unfold State.testWords; split <;> simp
@[simp] theorem State.testWords_port : (s.testWords l is).port = s.port := by unfold State.testWords; split <;> simp
@[simp] theorem State.testWords_svp : (s.testWords l is).svp = s.svp := by unfold State.testWords; split <;> simp
@[simp] theorem State.testWords_orderChoices : (s.testWords l is).orderChoices = s.orderChoices := by unfold State.testWords; split <;> simp
@[simp] theorem State.testWords_pending : (s.testWords l is).pending = s.pending := by unfold State.testWords; split <;> simp
end
section
variable (s : State) (b : TraceBody) (f : Bool)
@[simp] theorem State.traceTake_inReset : (s.traceTake b f).inReset = s.inReset := by unfold State.traceTake; dsimp only; split <;> rfl
@[simp] theorem State.traceTake_straps : (s.traceTake b f).straps = s.straps := by unfold State.traceTake; dsimp only; split <;> rfl
@[simp] theorem State.traceTake_timeBase : (s.traceTake b f).timeBase = s.timeBase := by unfold State.traceTake; dsimp only; split <;> rfl
@[simp] theorem State.traceTake_hbi : (s.traceTake b f).hbi = s.hbi := by unfold State.traceTake; dsimp only; split <;> rfl
@[simp] theorem State.traceTake_regions : (s.traceTake b f).regions = s.regions := by unfold State.traceTake; dsimp only; split <;> rfl
@[simp] theorem State.traceTake_tables : (s.traceTake b f).tables = s.tables := by unfold State.traceTake; dsimp only; split <;> rfl
@[simp] theorem State.traceTake_roles : (s.traceTake b f).roles = s.roles := by unfold State.traceTake; dsimp only; split <;> rfl
@[simp] theorem State.traceTake_scu : (s.traceTake b f).scu = s.scu := by unfold State.traceTake; dsimp only; split <;> rfl
@[simp] theorem State.traceTake_store : (s.traceTake b f).store = s.store := by unfold State.traceTake; dsimp only; split <;> rfl
@[simp] theorem State.traceTake_loader : (s.traceTake b f).loader = s.loader := by unfold State.traceTake; dsimp only; split <;> rfl
@[simp] theorem State.traceTake_port : (s.traceTake b f).port = s.port := by unfold State.traceTake; dsimp only; split <;> rfl
@[simp] theorem State.traceTake_svp : (s.traceTake b f).svp = s.svp := by unfold State.traceTake; dsimp only; split <;> rfl
@[simp] theorem State.traceTake_orderChoices : (s.traceTake b f).orderChoices = s.orderChoices := by unfold State.traceTake; dsimp only; split <;> rfl
@[simp] theorem State.traceTake_pending : (s.traceTake b f).pending = s.pending := by unfold State.traceTake; dsimp only; split <;> rfl
end
section
variable (s : State) (r : EndReport)
@[simp] theorem State.traceReport_inReset : (s.traceReport r).inReset = s.inReset := by unfold State.traceReport; split <;> simp
@[simp] theorem State.traceReport_straps : (s.traceReport r).straps = s.straps := by unfold State.traceReport; split <;> simp
@[simp] theorem State.traceReport_timeBase : (s.traceReport r).timeBase = s.timeBase := by unfold State.traceReport; split <;> simp
@[simp] theorem State.traceReport_hbi : (s.traceReport r).hbi = s.hbi := by unfold State.traceReport; split <;> simp
@[simp] theorem State.traceReport_regions : (s.traceReport r).regions = s.regions := by unfold State.traceReport; split <;> simp
@[simp] theorem State.traceReport_tables : (s.traceReport r).tables = s.tables := by unfold State.traceReport; split <;> simp
@[simp] theorem State.traceReport_roles : (s.traceReport r).roles = s.roles := by unfold State.traceReport; split <;> simp
@[simp] theorem State.traceReport_scu : (s.traceReport r).scu = s.scu := by unfold State.traceReport; split <;> simp
@[simp] theorem State.traceReport_store : (s.traceReport r).store = s.store := by unfold State.traceReport; split <;> simp
@[simp] theorem State.traceReport_loader : (s.traceReport r).loader = s.loader := by unfold State.traceReport; split <;> simp
@[simp] theorem State.traceReport_port : (s.traceReport r).port = s.port := by unfold State.traceReport; split <;> simp
@[simp] theorem State.traceReport_svp : (s.traceReport r).svp = s.svp := by unfold State.traceReport; split <;> simp
@[simp] theorem State.traceReport_orderChoices : (s.traceReport r).orderChoices = s.orderChoices := by unfold State.traceReport; split <;> simp
@[simp] theorem State.traceReport_pending : (s.traceReport r).pending = s.pending := by unfold State.traceReport; split <;> simp
end
section
variable (s : State) (m : Marker)
@[simp] theorem State.traceMarker_inReset : (s.traceMarker m).inReset = s.inReset := by unfold State.traceMarker; split <;> simp
@[simp] theorem State.traceMarker_straps : (s.traceMarker m).straps = s.straps := by unfold State.traceMarker; split <;> simp
@[simp] theorem State.traceMarker_timeBase : (s.traceMarker m).timeBase = s.timeBase := by unfold State.traceMarker; split <;> simp
@[simp] theorem State.traceMarker_hbi : (s.traceMarker m).hbi = s.hbi := by unfold State.traceMarker; split <;> simp
@[simp] theorem State.traceMarker_regions : (s.traceMarker m).regions = s.regions := by unfold State.traceMarker; split <;> simp
@[simp] theorem State.traceMarker_tables : (s.traceMarker m).tables = s.tables := by unfold State.traceMarker; split <;> simp
@[simp] theorem State.traceMarker_roles : (s.traceMarker m).roles = s.roles := by unfold State.traceMarker; split <;> simp
@[simp] theorem State.traceMarker_scu : (s.traceMarker m).scu = s.scu := by unfold State.traceMarker; split <;> simp
@[simp] theorem State.traceMarker_store : (s.traceMarker m).store = s.store := by unfold State.traceMarker; split <;> simp
@[simp] theorem State.traceMarker_loader : (s.traceMarker m).loader = s.loader := by unfold State.traceMarker; split <;> simp
@[simp] theorem State.traceMarker_port : (s.traceMarker m).port = s.port := by unfold State.traceMarker; split <;> simp
@[simp] theorem State.traceMarker_svp : (s.traceMarker m).svp = s.svp := by unfold State.traceMarker; split <;> simp
@[simp] theorem State.traceMarker_orderChoices : (s.traceMarker m).orderChoices = s.orderChoices := by unfold State.traceMarker; split <;> simp
@[simp] theorem State.traceMarker_pending : (s.traceMarker m).pending = s.pending := by unfold State.traceMarker; split <;> simp
end
section
variable (s : State) (d : Decision)
@[simp] theorem State.countHit_inReset : (s.countHit d).inReset = s.inReset := by unfold State.countHit; split; split <;> rfl; rfl
@[simp] theorem State.countHit_straps : (s.countHit d).straps = s.straps := by unfold State.countHit; split; split <;> rfl; rfl
@[simp] theorem State.countHit_timeBase : (s.countHit d).timeBase = s.timeBase := by unfold State.countHit; split; split <;> rfl; rfl
@[simp] theorem State.countHit_hbi : (s.countHit d).hbi = s.hbi := by unfold State.countHit; split; split <;> rfl; rfl
@[simp] theorem State.countHit_regions : (s.countHit d).regions = s.regions := by unfold State.countHit; split; split <;> rfl; rfl
@[simp] theorem State.countHit_roles : (s.countHit d).roles = s.roles := by unfold State.countHit; split; split <;> rfl; rfl
@[simp] theorem State.countHit_scu : (s.countHit d).scu = s.scu := by unfold State.countHit; split; split <;> rfl; rfl
@[simp] theorem State.countHit_store : (s.countHit d).store = s.store := by unfold State.countHit; split; split <;> rfl; rfl
@[simp] theorem State.countHit_loader : (s.countHit d).loader = s.loader := by unfold State.countHit; split; split <;> rfl; rfl
@[simp] theorem State.countHit_port : (s.countHit d).port = s.port := by unfold State.countHit; split; split <;> rfl; rfl
@[simp] theorem State.countHit_trace : (s.countHit d).trace = s.trace := by unfold State.countHit; split; split <;> rfl; rfl
@[simp] theorem State.countHit_events : (s.countHit d).events = s.events := by unfold State.countHit; split; split <;> rfl; rfl
@[simp] theorem State.countHit_svp : (s.countHit d).svp = s.svp := by unfold State.countHit; split; split <;> rfl; rfl
@[simp] theorem State.countHit_orderChoices : (s.countHit d).orderChoices = s.orderChoices := by unfold State.countHit; split; split <;> rfl; rfl
@[simp] theorem State.countHit_pending : (s.countHit d).pending = s.pending := by unfold State.countHit; split; split <;> rfl; rfl
end
section
variable (s : State) (d : Decision) (ok : Bool)
@[simp] theorem State.gateTest_inReset : (s.gateTest d ok).inReset = s.inReset := by unfold State.gateTest; split; rfl; split <;> rfl
@[simp] theorem State.gateTest_straps : (s.gateTest d ok).straps = s.straps := by unfold State.gateTest; split; rfl; split <;> rfl
@[simp] theorem State.gateTest_timeBase : (s.gateTest d ok).timeBase = s.timeBase := by unfold State.gateTest; split; rfl; split <;> rfl
@[simp] theorem State.gateTest_hbi : (s.gateTest d ok).hbi = s.hbi := by unfold State.gateTest; split; rfl; split <;> rfl
@[simp] theorem State.gateTest_regions : (s.gateTest d ok).regions = s.regions := by unfold State.gateTest; split; rfl; split <;> rfl
@[simp] theorem State.gateTest_tables : (s.gateTest d ok).tables = s.tables := by unfold State.gateTest; split; rfl; split <;> rfl
@[simp] theorem State.gateTest_roles : (s.gateTest d ok).roles = s.roles := by unfold State.gateTest; split; rfl; split <;> rfl
@[simp] theorem State.gateTest_store : (s.gateTest d ok).store = s.store := by unfold State.gateTest; split; rfl; split <;> rfl
@[simp] theorem State.gateTest_loader : (s.gateTest d ok).loader = s.loader := by unfold State.gateTest; split; rfl; split <;> rfl
@[simp] theorem State.gateTest_port : (s.gateTest d ok).port = s.port := by unfold State.gateTest; split; rfl; split <;> rfl
@[simp] theorem State.gateTest_trace : (s.gateTest d ok).trace = s.trace := by unfold State.gateTest; split; rfl; split <;> rfl
@[simp] theorem State.gateTest_events : (s.gateTest d ok).events = s.events := by unfold State.gateTest; split; rfl; split <;> rfl
@[simp] theorem State.gateTest_svp : (s.gateTest d ok).svp = s.svp := by unfold State.gateTest; split; rfl; split <;> rfl
@[simp] theorem State.gateTest_orderChoices : (s.gateTest d ok).orderChoices = s.orderChoices := by unfold State.gateTest; split; rfl; split <;> rfl
@[simp] theorem State.gateTest_pending : (s.gateTest d ok).pending = s.pending := by unfold State.gateTest; split; rfl; split <;> rfl
end

/-! ### Several raises -/

@[simp] theorem State.raiseAll_nil (s : State) : s.raiseAll [] = s := rfl

@[simp] theorem State.raiseAll_cons (s : State) (r : EventSource × Word) (rs : List (EventSource × Word)) :
    s.raiseAll (r :: rs) = (s.raise r.1 r.2).raiseAll rs := rfl

theorem State.raiseAll_append (s : State) (rs qs : List (EventSource × Word)) :
    s.raiseAll (rs ++ qs) = (s.raiseAll rs).raiseAll qs := by simp [State.raiseAll, List.foldl_append]

@[simp] theorem State.raiseAll_inReset (s : State) (rs : List (EventSource × Word)) : (s.raiseAll rs).inReset = s.inReset := by
  induction rs generalizing s with
  | nil => rfl
  | cons r rs ih => simp [ih]

@[simp] theorem State.raiseAll_straps (s : State) (rs : List (EventSource × Word)) : (s.raiseAll rs).straps = s.straps := by
  induction rs generalizing s with
  | nil => rfl
  | cons r rs ih => simp [ih]

@[simp] theorem State.raiseAll_timeBase (s : State) (rs : List (EventSource × Word)) : (s.raiseAll rs).timeBase = s.timeBase := by
  induction rs generalizing s with
  | nil => rfl
  | cons r rs ih => simp [ih]

@[simp] theorem State.raiseAll_hbi (s : State) (rs : List (EventSource × Word)) : (s.raiseAll rs).hbi = s.hbi := by
  induction rs generalizing s with
  | nil => rfl
  | cons r rs ih => simp [ih]

@[simp] theorem State.raiseAll_regions (s : State) (rs : List (EventSource × Word)) : (s.raiseAll rs).regions = s.regions := by
  induction rs generalizing s with
  | nil => rfl
  | cons r rs ih => simp [ih]

@[simp] theorem State.raiseAll_tables (s : State) (rs : List (EventSource × Word)) : (s.raiseAll rs).tables = s.tables := by
  induction rs generalizing s with
  | nil => rfl
  | cons r rs ih => simp [ih]

@[simp] theorem State.raiseAll_roles (s : State) (rs : List (EventSource × Word)) : (s.raiseAll rs).roles = s.roles := by
  induction rs generalizing s with
  | nil => rfl
  | cons r rs ih => simp [ih]

@[simp] theorem State.raiseAll_scu (s : State) (rs : List (EventSource × Word)) : (s.raiseAll rs).scu = s.scu := by
  induction rs generalizing s with
  | nil => rfl
  | cons r rs ih => simp [ih]

@[simp] theorem State.raiseAll_store (s : State) (rs : List (EventSource × Word)) : (s.raiseAll rs).store = s.store := by
  induction rs generalizing s with
  | nil => rfl
  | cons r rs ih => simp [ih]

@[simp] theorem State.raiseAll_loader (s : State) (rs : List (EventSource × Word)) : (s.raiseAll rs).loader = s.loader := by
  induction rs generalizing s with
  | nil => rfl
  | cons r rs ih => simp [ih]

@[simp] theorem State.raiseAll_port (s : State) (rs : List (EventSource × Word)) : (s.raiseAll rs).port = s.port := by
  induction rs generalizing s with
  | nil => rfl
  | cons r rs ih => simp [ih]

@[simp] theorem State.raiseAll_svp (s : State) (rs : List (EventSource × Word)) : (s.raiseAll rs).svp = s.svp := by
  induction rs generalizing s with
  | nil => rfl
  | cons r rs ih => simp [ih]

@[simp] theorem State.raiseAll_orderChoices (s : State) (rs : List (EventSource × Word)) : (s.raiseAll rs).orderChoices = s.orderChoices := by
  induction rs generalizing s with
  | nil => rfl
  | cons r rs ih => simp [ih]

@[simp] theorem State.raiseAll_pending (s : State) (rs : List (EventSource × Word)) : (s.raiseAll rs).pending = s.pending := by
  induction rs generalizing s with
  | nil => rfl
  | cons r rs ih => simp [ih]

/-! ### A record and raises of one step, in either order -/

section
variable (s : State) (record : State → State) (rs : List (EventSource × Word))

theorem State.recordWith_inReset (h : ∀ x, (record x).inReset = x.inReset) : (s.recordWith record rs).inReset = s.inReset := by
  unfold State.recordWith
  split
  · split <;> simp [h]
  · simp [h]

theorem State.recordWith_straps (h : ∀ x, (record x).straps = x.straps) : (s.recordWith record rs).straps = s.straps := by
  unfold State.recordWith
  split
  · split <;> simp [h]
  · simp [h]

theorem State.recordWith_timeBase (h : ∀ x, (record x).timeBase = x.timeBase) : (s.recordWith record rs).timeBase = s.timeBase := by
  unfold State.recordWith
  split
  · split <;> simp [h]
  · simp [h]

theorem State.recordWith_hbi (h : ∀ x, (record x).hbi = x.hbi) : (s.recordWith record rs).hbi = s.hbi := by
  unfold State.recordWith
  split
  · split <;> simp [h]
  · simp [h]

theorem State.recordWith_regions (h : ∀ x, (record x).regions = x.regions) : (s.recordWith record rs).regions = s.regions := by
  unfold State.recordWith
  split
  · split <;> simp [h]
  · simp [h]

theorem State.recordWith_tables (h : ∀ x, (record x).tables = x.tables) : (s.recordWith record rs).tables = s.tables := by
  unfold State.recordWith
  split
  · split <;> simp [h]
  · simp [h]

theorem State.recordWith_roles (h : ∀ x, (record x).roles = x.roles) : (s.recordWith record rs).roles = s.roles := by
  unfold State.recordWith
  split
  · split <;> simp [h]
  · simp [h]

theorem State.recordWith_scu (h : ∀ x, (record x).scu = x.scu) : (s.recordWith record rs).scu = s.scu := by
  unfold State.recordWith
  split
  · split <;> simp [h]
  · simp [h]

theorem State.recordWith_store (h : ∀ x, (record x).store = x.store) : (s.recordWith record rs).store = s.store := by
  unfold State.recordWith
  split
  · split <;> simp [h]
  · simp [h]

theorem State.recordWith_loader (h : ∀ x, (record x).loader = x.loader) : (s.recordWith record rs).loader = s.loader := by
  unfold State.recordWith
  split
  · split <;> simp [h]
  · simp [h]

theorem State.recordWith_port (h : ∀ x, (record x).port = x.port) : (s.recordWith record rs).port = s.port := by
  unfold State.recordWith
  split
  · split <;> simp [h]
  · simp [h]

theorem State.recordWith_svp (h : ∀ x, (record x).svp = x.svp) : (s.recordWith record rs).svp = s.svp := by
  unfold State.recordWith
  split
  · split <;> simp [h]
  · simp [h]

theorem State.recordWith_pending (h : ∀ x, (record x).pending = x.pending) : (s.recordWith record rs).pending = s.pending := by
  unfold State.recordWith
  split
  · split <;> simp [h]
  · simp [h]

end

/-! ### The fields that operations write -/

@[simp] theorem State.raise_events (s : State) (src : EventSource) (d : Word) :
    (s.raise src d).events = s.events.raise src d := rfl

@[simp] theorem State.raise_trace (s : State) (src : EventSource) (d : Word) :
    (s.raise src d).trace = s.trace.notice src := rfl

@[simp] theorem State.request_port (s : State) (who : Requester) (q : PortRequest) :
    (s.request who q).port = s.port.request s.timeBase who q := rfl

@[simp] theorem State.freePort_port (s : State) : s.freePort.port = s.port.free s.timeBase := rfl

@[simp] theorem State.upset_store (s : State) (us : List Upset) : (s.upset us).store = s.store.upset us := rfl

@[simp] theorem State.setTable_tables (s : State) (r : Role) (x : Table) :
    (s.setTable r x).tables = s.tables.set x (s.roles.letter r) := rfl

@[simp] theorem State.releaseRole_tables (s : State) (r : Role) :
    (s.releaseRole r).tables = s.tables.set Table.empty (s.roles.letter r) := rfl

@[simp] theorem State.releaseRole_store (s : State) (r : Role) :
    (s.releaseRole r).store = s.store.releaseTable (s.table r) := rfl

/-! ### Tables -/

@[simp] theorem Tables.get_set_self (t : Tables) (x : Table) (l : Letter) : (t.set x l).get l = x := by cases l <;> rfl

theorem Tables.get_set_ne (t : Tables) (x : Table) (l m : Letter) (h : m ≠ l) : (t.set x l).get m = t.get m := by
  cases l <;> cases m <;> first | rfl | exact absurd rfl h

@[simp] theorem State.table_setTable_self (s : State) (r : Role) (x : Table) : (s.setTable r x).table r = x := by
  simp [State.table]

theorem Roles.letter_ne (r : Roles) (h : r.distinct) (a b : Role) (hab : a ≠ b) : r.letter a ≠ r.letter b := by
  obtain ⟨h1, h2, h3⟩ := h
  cases a <;> cases b <;> first | exact absurd rfl hab | assumption | (intro e; exact absurd e.symm ‹_›)

theorem State.table_setTable_ne (s : State) (h : s.roles.distinct) (r q : Role) (x : Table) (hq : q ≠ r) :
    (s.setTable r x).table q = s.table q := by
  simp only [State.table, State.setTable_tables, State.setTable_roles]
  exact Tables.get_set_ne _ _ _ _ (Roles.letter_ne _ h _ _ hq)

@[simp] theorem Table.setSlot_generation (t : Table) (i : Slot) (e : Option Entry) :
    (t.setSlot i e).generation = t.generation := rfl

@[simp] theorem Table.setSlot_expectedCrc (t : Table) (i : Slot) (e : Option Entry) :
    (t.setSlot i e).expectedCrc = t.expectedCrc := rfl

@[simp] theorem Table.setSlot_result (t : Table) (i : Slot) (e : Option Entry) : (t.setSlot i e).result = t.result := rfl

@[simp] theorem Table.setSlot_slots_self (t : Table) (i : Slot) (e : Option Entry) : (t.setSlot i e).slots[i] = e := by
  simp [Table.setSlot]

theorem Table.setSlot_slots_ne (t : Table) (i j : Slot) (e : Option Entry) (h : j ≠ i) :
    (t.setSlot i e).slots[j] = t.slots[j] := by
  simp only [Table.setSlot, Fin.getElem_fin]
  exact Vector.getElem_set_ne _ _ (fun hij => h (Fin.ext hij.symm))

/-! ### Clocking bytes at the service port -/

section
variable (s : State)
@[simp] theorem State.headerOut_inReset : s.headerOut.inReset = s.inReset := by unfold State.headerOut; split; rfl; split <;> rfl
@[simp] theorem State.headerOut_straps : s.headerOut.straps = s.straps := by unfold State.headerOut; split; rfl; split <;> rfl
@[simp] theorem State.headerOut_timeBase : s.headerOut.timeBase = s.timeBase := by unfold State.headerOut; split; rfl; split <;> rfl
@[simp] theorem State.headerOut_hbi : s.headerOut.hbi = s.hbi := by unfold State.headerOut; split; rfl; split <;> rfl
@[simp] theorem State.headerOut_regions : s.headerOut.regions = s.regions := by unfold State.headerOut; split; rfl; split <;> rfl
@[simp] theorem State.headerOut_tables : s.headerOut.tables = s.tables := by unfold State.headerOut; split; rfl; split <;> rfl
@[simp] theorem State.headerOut_roles : s.headerOut.roles = s.roles := by unfold State.headerOut; split; rfl; split <;> rfl
@[simp] theorem State.headerOut_scu : s.headerOut.scu = s.scu := by unfold State.headerOut; split; rfl; split <;> rfl
@[simp] theorem State.headerOut_store : s.headerOut.store = s.store := by unfold State.headerOut; split; rfl; split <;> rfl
@[simp] theorem State.headerOut_loader : s.headerOut.loader = s.loader := by unfold State.headerOut; split; rfl; split <;> rfl
@[simp] theorem State.headerOut_port : s.headerOut.port = s.port := by unfold State.headerOut; split; rfl; split <;> rfl
@[simp] theorem State.headerOut_pending : s.headerOut.pending = s.pending := by unfold State.headerOut; split; rfl; split <;> rfl
@[simp] theorem State.headerOut_trace : s.headerOut.trace = s.trace := by unfold State.headerOut; split; rfl; split <;> rfl
@[simp] theorem State.headerOut_events : s.headerOut.events = s.events := by unfold State.headerOut; split; rfl; split <;> rfl
@[simp] theorem State.headerOut_orderChoices : s.headerOut.orderChoices = s.orderChoices := by unfold State.headerOut; split; rfl; split <;> rfl
@[simp] theorem State.responseOut_inReset : s.responseOut.inReset = s.inReset := by unfold State.responseOut; split <;> rfl
@[simp] theorem State.responseOut_straps : s.responseOut.straps = s.straps := by unfold State.responseOut; split <;> rfl
@[simp] theorem State.responseOut_timeBase : s.responseOut.timeBase = s.timeBase := by unfold State.responseOut; split <;> rfl
@[simp] theorem State.responseOut_hbi : s.responseOut.hbi = s.hbi := by unfold State.responseOut; split <;> rfl
@[simp] theorem State.responseOut_regions : s.responseOut.regions = s.regions := by unfold State.responseOut; split <;> rfl
@[simp] theorem State.responseOut_tables : s.responseOut.tables = s.tables := by unfold State.responseOut; split <;> rfl
@[simp] theorem State.responseOut_roles : s.responseOut.roles = s.roles := by unfold State.responseOut; split <;> rfl
@[simp] theorem State.responseOut_scu : s.responseOut.scu = s.scu := by unfold State.responseOut; split <;> rfl
@[simp] theorem State.responseOut_store : s.responseOut.store = s.store := by unfold State.responseOut; split <;> rfl
@[simp] theorem State.responseOut_loader : s.responseOut.loader = s.loader := by unfold State.responseOut; split <;> rfl
@[simp] theorem State.responseOut_port : s.responseOut.port = s.port := by unfold State.responseOut; split <;> rfl
@[simp] theorem State.responseOut_pending : s.responseOut.pending = s.pending := by unfold State.responseOut; split <;> rfl
@[simp] theorem State.responseOut_trace : s.responseOut.trace = s.trace := by unfold State.responseOut; split <;> rfl
@[simp] theorem State.responseOut_events : s.responseOut.events = s.events := by unfold State.responseOut; split <;> rfl
@[simp] theorem State.responseOut_orderChoices : s.responseOut.orderChoices = s.orderChoices := by unfold State.responseOut; split <;> rfl
@[simp] theorem State.refuseFrame_inReset (v : Verdict) (tag : Byte) : (s.refuseFrame v tag).inReset = s.inReset := rfl
@[simp] theorem State.refuseFrame_straps (v : Verdict) (tag : Byte) : (s.refuseFrame v tag).straps = s.straps := rfl
@[simp] theorem State.refuseFrame_timeBase (v : Verdict) (tag : Byte) : (s.refuseFrame v tag).timeBase = s.timeBase := rfl
@[simp] theorem State.refuseFrame_hbi (v : Verdict) (tag : Byte) : (s.refuseFrame v tag).hbi = s.hbi := rfl
@[simp] theorem State.refuseFrame_regions (v : Verdict) (tag : Byte) : (s.refuseFrame v tag).regions = s.regions := rfl
@[simp] theorem State.refuseFrame_tables (v : Verdict) (tag : Byte) : (s.refuseFrame v tag).tables = s.tables := rfl
@[simp] theorem State.refuseFrame_roles (v : Verdict) (tag : Byte) : (s.refuseFrame v tag).roles = s.roles := rfl
@[simp] theorem State.refuseFrame_scu (v : Verdict) (tag : Byte) : (s.refuseFrame v tag).scu = s.scu := rfl
@[simp] theorem State.refuseFrame_store (v : Verdict) (tag : Byte) : (s.refuseFrame v tag).store = s.store := rfl
@[simp] theorem State.refuseFrame_loader (v : Verdict) (tag : Byte) : (s.refuseFrame v tag).loader = s.loader := rfl
@[simp] theorem State.refuseFrame_port (v : Verdict) (tag : Byte) : (s.refuseFrame v tag).port = s.port := rfl
@[simp] theorem State.refuseFrame_pending (v : Verdict) (tag : Byte) : (s.refuseFrame v tag).pending = s.pending := rfl
@[simp] theorem State.refuseFrame_orderChoices (v : Verdict) (tag : Byte) : (s.refuseFrame v tag).orderChoices = s.orderChoices := rfl
@[simp] theorem State.acceptFrame_inReset (c : QueuedCommand) : (s.acceptFrame c).inReset = s.inReset := by unfold State.acceptFrame; split <;> rfl
@[simp] theorem State.acceptFrame_straps (c : QueuedCommand) : (s.acceptFrame c).straps = s.straps := by unfold State.acceptFrame; split <;> rfl
@[simp] theorem State.acceptFrame_timeBase (c : QueuedCommand) : (s.acceptFrame c).timeBase = s.timeBase := by unfold State.acceptFrame; split <;> rfl
@[simp] theorem State.acceptFrame_hbi (c : QueuedCommand) : (s.acceptFrame c).hbi = s.hbi := by unfold State.acceptFrame; split <;> rfl
@[simp] theorem State.acceptFrame_regions (c : QueuedCommand) : (s.acceptFrame c).regions = s.regions := by unfold State.acceptFrame; split <;> rfl
@[simp] theorem State.acceptFrame_tables (c : QueuedCommand) : (s.acceptFrame c).tables = s.tables := by unfold State.acceptFrame; split <;> rfl
@[simp] theorem State.acceptFrame_roles (c : QueuedCommand) : (s.acceptFrame c).roles = s.roles := by unfold State.acceptFrame; split <;> rfl
@[simp] theorem State.acceptFrame_scu (c : QueuedCommand) : (s.acceptFrame c).scu = s.scu := by unfold State.acceptFrame; split <;> rfl
@[simp] theorem State.acceptFrame_store (c : QueuedCommand) : (s.acceptFrame c).store = s.store := by unfold State.acceptFrame; split <;> rfl
@[simp] theorem State.acceptFrame_loader (c : QueuedCommand) : (s.acceptFrame c).loader = s.loader := by unfold State.acceptFrame; split <;> rfl
@[simp] theorem State.acceptFrame_port (c : QueuedCommand) : (s.acceptFrame c).port = s.port := by unfold State.acceptFrame; split <;> rfl
@[simp] theorem State.acceptFrame_pending (c : QueuedCommand) : (s.acceptFrame c).pending = s.pending := by unfold State.acceptFrame; split <;> rfl
@[simp] theorem State.acceptFrame_trace (c : QueuedCommand) : (s.acceptFrame c).trace = s.trace := by unfold State.acceptFrame; split <;> rfl
@[simp] theorem State.acceptFrame_events (c : QueuedCommand) : (s.acceptFrame c).events = s.events := by unfold State.acceptFrame; split <;> rfl
@[simp] theorem State.acceptFrame_orderChoices (c : QueuedCommand) : (s.acceptFrame c).orderChoices = s.orderChoices := by unfold State.acceptFrame; split <;> rfl
@[simp] theorem State.decideFrame_inReset (c : QueuedCommand) (ok : Bool) : (s.decideFrame c ok).inReset = s.inReset := by unfold State.decideFrame; split <;> simp
@[simp] theorem State.decideFrame_straps (c : QueuedCommand) (ok : Bool) : (s.decideFrame c ok).straps = s.straps := by unfold State.decideFrame; split <;> simp
@[simp] theorem State.decideFrame_timeBase (c : QueuedCommand) (ok : Bool) : (s.decideFrame c ok).timeBase = s.timeBase := by unfold State.decideFrame; split <;> simp
@[simp] theorem State.decideFrame_hbi (c : QueuedCommand) (ok : Bool) : (s.decideFrame c ok).hbi = s.hbi := by unfold State.decideFrame; split <;> simp
@[simp] theorem State.decideFrame_regions (c : QueuedCommand) (ok : Bool) : (s.decideFrame c ok).regions = s.regions := by unfold State.decideFrame; split <;> simp
@[simp] theorem State.decideFrame_tables (c : QueuedCommand) (ok : Bool) : (s.decideFrame c ok).tables = s.tables := by unfold State.decideFrame; split <;> simp
@[simp] theorem State.decideFrame_roles (c : QueuedCommand) (ok : Bool) : (s.decideFrame c ok).roles = s.roles := by unfold State.decideFrame; split <;> simp
@[simp] theorem State.decideFrame_scu (c : QueuedCommand) (ok : Bool) : (s.decideFrame c ok).scu = s.scu := by unfold State.decideFrame; split <;> simp
@[simp] theorem State.decideFrame_store (c : QueuedCommand) (ok : Bool) : (s.decideFrame c ok).store = s.store := by unfold State.decideFrame; split <;> simp
@[simp] theorem State.decideFrame_loader (c : QueuedCommand) (ok : Bool) : (s.decideFrame c ok).loader = s.loader := by unfold State.decideFrame; split <;> simp
@[simp] theorem State.decideFrame_port (c : QueuedCommand) (ok : Bool) : (s.decideFrame c ok).port = s.port := by unfold State.decideFrame; split <;> simp
@[simp] theorem State.decideFrame_pending (c : QueuedCommand) (ok : Bool) : (s.decideFrame c ok).pending = s.pending := by unfold State.decideFrame; split <;> simp
@[simp] theorem State.decideFrame_orderChoices (c : QueuedCommand) (ok : Bool) : (s.decideFrame c ok).orderChoices = s.orderChoices := by unfold State.decideFrame; split <;> simp
@[simp] theorem State.decideByte_inReset : s.decideByte.inReset = s.inReset := by unfold State.decideByte; split; rfl; split <;> simp
@[simp] theorem State.decideByte_straps : s.decideByte.straps = s.straps := by unfold State.decideByte; split; rfl; split <;> simp
@[simp] theorem State.decideByte_timeBase : s.decideByte.timeBase = s.timeBase := by unfold State.decideByte; split; rfl; split <;> simp
@[simp] theorem State.decideByte_hbi : s.decideByte.hbi = s.hbi := by unfold State.decideByte; split; rfl; split <;> simp
@[simp] theorem State.decideByte_regions : s.decideByte.regions = s.regions := by unfold State.decideByte; split; rfl; split <;> simp
@[simp] theorem State.decideByte_tables : s.decideByte.tables = s.tables := by unfold State.decideByte; split; rfl; split <;> simp
@[simp] theorem State.decideByte_roles : s.decideByte.roles = s.roles := by unfold State.decideByte; split; rfl; split <;> simp
@[simp] theorem State.decideByte_scu : s.decideByte.scu = s.scu := by unfold State.decideByte; split; rfl; split <;> simp
@[simp] theorem State.decideByte_store : s.decideByte.store = s.store := by unfold State.decideByte; split; rfl; split <;> simp
@[simp] theorem State.decideByte_loader : s.decideByte.loader = s.loader := by unfold State.decideByte; split; rfl; split <;> simp
@[simp] theorem State.decideByte_port : s.decideByte.port = s.port := by unfold State.decideByte; split; rfl; split <;> simp
@[simp] theorem State.decideByte_pending : s.decideByte.pending = s.pending := by unfold State.decideByte; split; rfl; split <;> simp
@[simp] theorem State.decideByte_orderChoices : s.decideByte.orderChoices = s.orderChoices := by unfold State.decideByte; split; rfl; split <;> simp
@[simp] theorem State.clockByte_inReset (b : Byte) : (s.clockByte b).inReset = s.inReset := by
  unfold State.clockByte; dsimp only; split; split <;> simp; simp
@[simp] theorem State.clockByte_straps (b : Byte) : (s.clockByte b).straps = s.straps := by
  unfold State.clockByte; dsimp only; split; split <;> simp; simp
@[simp] theorem State.clockByte_timeBase (b : Byte) : (s.clockByte b).timeBase = s.timeBase := by
  unfold State.clockByte; dsimp only; split; split <;> simp; simp
@[simp] theorem State.clockByte_hbi (b : Byte) : (s.clockByte b).hbi = s.hbi := by
  unfold State.clockByte; dsimp only; split; split <;> simp; simp
@[simp] theorem State.clockByte_regions (b : Byte) : (s.clockByte b).regions = s.regions := by
  unfold State.clockByte; dsimp only; split; split <;> simp; simp
@[simp] theorem State.clockByte_tables (b : Byte) : (s.clockByte b).tables = s.tables := by
  unfold State.clockByte; dsimp only; split; split <;> simp; simp
@[simp] theorem State.clockByte_roles (b : Byte) : (s.clockByte b).roles = s.roles := by
  unfold State.clockByte; dsimp only; split; split <;> simp; simp
@[simp] theorem State.clockByte_scu (b : Byte) : (s.clockByte b).scu = s.scu := by
  unfold State.clockByte; dsimp only; split; split <;> simp; simp
@[simp] theorem State.clockByte_store (b : Byte) : (s.clockByte b).store = s.store := by
  unfold State.clockByte; dsimp only; split; split <;> simp; simp
@[simp] theorem State.clockByte_loader (b : Byte) : (s.clockByte b).loader = s.loader := by
  unfold State.clockByte; dsimp only; split; split <;> simp; simp
@[simp] theorem State.clockByte_port (b : Byte) : (s.clockByte b).port = s.port := by
  unfold State.clockByte; dsimp only; split; split <;> simp; simp
@[simp] theorem State.clockByte_pending (b : Byte) : (s.clockByte b).pending = s.pending := by
  unfold State.clockByte; dsimp only; split; split <;> simp; simp
end

@[simp] theorem State.clock_nil (s : State) : s.clock [] = s := rfl

@[simp] theorem State.clock_cons (s : State) (b : Byte) (bs : List Byte) : s.clock (b :: bs) = (s.clockByte b).clock bs := rfl

theorem State.clock_append (s : State) (bs cs : List Byte) : s.clock (bs ++ cs) = (s.clock bs).clock cs := by
  simp [State.clock, List.foldl_append]

@[simp] theorem State.clock_inReset (s : State) (bs : List Byte) : (s.clock bs).inReset = s.inReset := by
  induction bs generalizing s with
  | nil => rfl
  | cons b bs ih => simp [ih]

@[simp] theorem State.clock_straps (s : State) (bs : List Byte) : (s.clock bs).straps = s.straps := by
  induction bs generalizing s with
  | nil => rfl
  | cons b bs ih => simp [ih]

@[simp] theorem State.clock_timeBase (s : State) (bs : List Byte) : (s.clock bs).timeBase = s.timeBase := by
  induction bs generalizing s with
  | nil => rfl
  | cons b bs ih => simp [ih]

@[simp] theorem State.clock_hbi (s : State) (bs : List Byte) : (s.clock bs).hbi = s.hbi := by
  induction bs generalizing s with
  | nil => rfl
  | cons b bs ih => simp [ih]

@[simp] theorem State.clock_regions (s : State) (bs : List Byte) : (s.clock bs).regions = s.regions := by
  induction bs generalizing s with
  | nil => rfl
  | cons b bs ih => simp [ih]

@[simp] theorem State.clock_tables (s : State) (bs : List Byte) : (s.clock bs).tables = s.tables := by
  induction bs generalizing s with
  | nil => rfl
  | cons b bs ih => simp [ih]

@[simp] theorem State.clock_roles (s : State) (bs : List Byte) : (s.clock bs).roles = s.roles := by
  induction bs generalizing s with
  | nil => rfl
  | cons b bs ih => simp [ih]

@[simp] theorem State.clock_scu (s : State) (bs : List Byte) : (s.clock bs).scu = s.scu := by
  induction bs generalizing s with
  | nil => rfl
  | cons b bs ih => simp [ih]

@[simp] theorem State.clock_store (s : State) (bs : List Byte) : (s.clock bs).store = s.store := by
  induction bs generalizing s with
  | nil => rfl
  | cons b bs ih => simp [ih]

@[simp] theorem State.clock_loader (s : State) (bs : List Byte) : (s.clock bs).loader = s.loader := by
  induction bs generalizing s with
  | nil => rfl
  | cons b bs ih => simp [ih]

@[simp] theorem State.clock_port (s : State) (bs : List Byte) : (s.clock bs).port = s.port := by
  induction bs generalizing s with
  | nil => rfl
  | cons b bs ih => simp [ih]

@[simp] theorem State.clock_pending (s : State) (bs : List Byte) : (s.clock bs).pending = s.pending := by
  induction bs generalizing s with
  | nil => rfl
  | cons b bs ih => simp [ih]

end Sys2Proof.Machine
end

