-- ==== Sys2Proof/Laws/Ops.lean ====
section
/-! SUPPORT. For each shared operation, one lemma that says what it can do; later proofs cite it. -/

namespace Sys2Proof.Machine

open Sys2Proof

/-! ### The executor -/

theorem State.nextCommand_offers {s : State} {code tag : Byte} {p : List Byte} {rest : List QueuedCommand}
    (h : s.offers code tag p rest) : s.nextCommand = some (⟨tag, code, p⟩, s.taken rest) := by
  obtain ⟨h1, h2, h3⟩ := h
  simp [State.nextCommand, h1, h2, h3, State.taken]

/-- A command offered with a payload of a length of its forms goes to its owning rule. -/
theorem State.runCommand_offers {s : State} {code tag : Byte} {p : List Byte} {rest : List QueuedCommand}
    (body : QueuedCommand → State → State) (h : s.offers code tag p rest) (hp : payloadFits code p.length = true) :
    s.runCommand code body = body ⟨tag, code, p⟩ (s.taken rest) := by
  simp [State.runCommand, State.nextCommand_offers h, hp]

/-- A command offered with a payload length of none of its forms is answered with BAD_ARGUMENT. -/
theorem State.runCommand_badLength {s : State} {code tag : Byte} {p : List Byte} {rest : List QueuedCommand}
    (body : QueuedCommand → State → State) (h : s.offers code tag p rest) (hp : payloadFits code p.length = false) :
    s.runCommand code body = s.ended rest tag .badArgument [] := by
  simp [State.runCommand, State.nextCommand_offers h, hp, State.ended, State.taken, State.respond]

/-- A command that ends when it executes. -/
theorem State.runReply_offers {s : State} {code tag : Byte} {p : List Byte} {rest : List QueuedCommand}
    (body : List Byte → State → Reply) (h : s.offers code tag p rest) (hp : payloadFits code p.length = true) :
    s.runReply code body =
      (body p (s.taken rest)).1.respond tag (body p (s.taken rest)).2.1 (body p (s.taken rest)).2.2 := by
  simp [State.runReply, State.runCommand_offers _ h hp]

/-- Everything the taking of a command can do: nothing, the refusal of the payload length, or the owning rule. -/
theorem State.runCommand_cases (s : State) (code : Byte) (body : QueuedCommand → State → State) :
    s.runCommand code body = s ∨
      ∃ tag p rest, s.offers code tag p rest ∧
        (s.runCommand code body = s.ended rest tag .badArgument [] ∨
          s.runCommand code body = body ⟨tag, code, p⟩ (s.taken rest)) := by
  by_cases h1 : s.inReset = true
  · exact .inl (by simp [State.runCommand, State.nextCommand, h1])
  by_cases h2 : s.svp.executing = none
  · cases h3 : s.svp.commands with
    | nil => exact .inl (by simp [State.runCommand, State.nextCommand, h1, h2, h3])
    | cons c rest =>
      by_cases hc : c.code = code
      · obtain ⟨tag, cc, p⟩ := c
        subst hc
        have ho : s.offers cc tag p rest := ⟨by simpa using h1, h2, h3⟩
        refine .inr ⟨tag, p, rest, ho, ?_⟩
        cases hp : payloadFits cc p.length with
        | false => exact .inl (State.runCommand_badLength body ho hp)
        | true => exact .inr (State.runCommand_offers body ho hp)
      · exact .inl (by simp [State.runCommand, State.nextCommand, h1, h2, h3, hc])
  · have : s.svp.executing.isSome = true := by simpa [Option.isSome_iff_ne_none] using h2
    exact .inl (by simp [State.runCommand, State.nextCommand, this])

@[simp] theorem State.refuse_eq (s : State) (r : ResultCode) : s.refuse r = (s, r, []) := rfl

theorem State.taken_respond (s : State) (rest : List QueuedCommand) (tag : Byte) (r : ResultCode) (p : List Byte) :
    (s.taken rest).respond tag r p = s.ended rest tag r p := rfl

theorem State.whenUp_of {s : State} (h : s.inReset = false) (f : State → State) : s.whenUp f = f s := by
  simp [State.whenUp, h]

theorem State.whenUp_inReset {s : State} (h : s.inReset = true) (f : State → State) : s.whenUp f = s := by
  simp [State.whenUp, h]

/-! ### Events -/

theorem EventUnit.raise_source (e : EventUnit) (src : EventSource) (d : Word) :
    (e.raise src d).sources[src.index] = e.sources[src.index].raised d := by
  simp [EventUnit.raise, EventUnit.setSource]

theorem EventUnit.raise_other (e : EventUnit) (src : EventSource) (d : Word) (i : Fin 14) (h : i ≠ src.index) :
    (e.raise src d).sources[i] = e.sources[i] := by
  simp only [EventUnit.raise, EventUnit.setSource, Fin.getElem_fin]
  exact Vector.getElem_set_ne _ _ (fun hij => h (Fin.ext hij.symm))

@[simp] theorem EventUnit.raise_inService (e : EventUnit) (src : EventSource) (d : Word) :
    (e.raise src d).inService = e.inService := rfl

@[simp] theorem SourceState.raised_enable (x : SourceState) (d : Word) : (x.raised d).enable = x.enable := rfl
@[simp] theorem SourceState.raised_level (x : SourceState) (d : Word) : (x.raised d).level = x.level := rfl
@[simp] theorem SourceState.raised_pending (x : SourceState) (d : Word) : (x.raised d).pending = true := rfl
@[simp] theorem SourceState.raised_detail (x : SourceState) (d : Word) : (x.raised d).detail = d := rfl
@[simp] theorem SourceState.raised_count (x : SourceState) (d : Word) : (x.raised d).count = satCount x.count := rfl

/-- A raise changes no enable, whatever the source. -/
theorem EventUnit.raise_enable (e : EventUnit) (src : EventSource) (d : Word) (i : Fin 14) :
    (e.raise src d).sources[i].enable = e.sources[i].enable := by
  by_cases h : i = src.index
  · subst h; rw [EventUnit.raise_source]; rfl
  · rw [EventUnit.raise_other _ _ _ _ h]

/-- A raise changes no level, whatever the source. -/
theorem EventUnit.raise_level (e : EventUnit) (src : EventSource) (d : Word) (i : Fin 14) :
    (e.raise src d).sources[i].level = e.sources[i].level := by
  by_cases h : i = src.index
  · subst h; rw [EventUnit.raise_source]; rfl
  · rw [EventUnit.raise_other _ _ _ _ h]

/-! ### Trace -/

/-- A notice moves an armed unit to POST or does nothing; it makes no record. -/
theorem TraceUnit.notice_cases (t : TraceUnit) (src : EventSource) :
    t.notice src = t ∨
      (t.state = .armed ∧ t.config.source = some src ∧
        t.notice src =
          { t with state := .post, cause := .event, triggerSeq := t.newest, postRemaining := t.config.post }) := by
  unfold TraceUnit.notice
  split
  · exact .inr ⟨‹_ ∧ _›.1, ‹_ ∧ _›.2, rfl⟩
  · exact .inl rfl

@[simp] theorem TraceUnit.notice_records (t : TraceUnit) (src : EventSource) : (t.notice src).records = t.records := by
  rcases t.notice_cases src with h | ⟨-, -, h⟩ <;> rw [h]

@[simp] theorem TraceUnit.notice_seq (t : TraceUnit) (src : EventSource) : (t.notice src).seq = t.seq := by
  rcases t.notice_cases src with h | ⟨-, -, h⟩ <;> rw [h]

@[simp] theorem TraceUnit.append_seq (t : TraceUnit) (b : TraceBody) : (t.append b).seq = t.seq + 1 := rfl

/-- What becomes of the buffer when an arrival is taken: nothing, or an append. -/
theorem TraceUnit.take_buffer (t : TraceUnit) (b : TraceBody) (f : Bool) :
    ((t.take b f).1.records = t.records ∧ (t.take b f).1.seq = t.seq) ∨
      ((t.take b f).1.records = (t.append b).records ∧ (t.take b f).1.seq = t.seq + 1) := by
  unfold TraceUnit.take
  split
  · exact .inl ⟨rfl, rfl⟩
  · exact .inl ⟨rfl, rfl⟩
  · split
    · exact .inl ⟨rfl, rfl⟩
    · exact .inr ⟨rfl, rfl⟩
  · split <;> exact .inr ⟨rfl, rfl⟩
  · split <;> exact .inr ⟨rfl, rfl⟩

/-- An append to a buffer within its 512 places. -/
theorem TraceUnit.append_eq {t : TraceUnit} (b : TraceBody) (h : t.records.length ≤ 512) : t.append b = t.appended b := by
  unfold TraceUnit.append TraceUnit.appended
  by_cases h5 : t.records.length = 512
  · simp [Config.traceCapacity, h5]
  · have : ¬ 512 ≤ t.records.length := by omega
    simp [Config.traceCapacity, h5, this]

/-- The detail of TRACE_STOPPED: a reason and a sequence number (R180). -/
theorem detailBytes_seq (n : Nat) (hn : n < 256) (x : BitVec 16) :
    detailBytes (BitVec.ofNat 8 n) 0 x = BitVec.ofNat 32 (n + 65536 * x.toNat) := by
  apply BitVec.eq_of_toNat_eq
  have h := x.isLt
  rw [detailBytes, BitVec.toNat_append, BitVec.toNat_append, BitVec.toNat_ofNat, BitVec.toNat_ofNat]
  simp only [BitVec.ofNat_eq_ofNat, BitVec.toNat_ofNat, Nat.zero_mod, Nat.zero_shiftLeft, Nat.zero_or]
  rw [← Nat.shiftLeft_add_eq_or_of_lt (by omega), Nat.shiftLeft_eq]
  omega

/-- What becomes of a marker at the trace unit (R138 to R143). -/
theorem State.traceMarker_marked (s : State) (m : Marker) : s.marked (s.traceMarker m) m := by
  refine ⟨fun h => ?_, fun hm hl => ⟨fun h h2 => ?_, fun last h h2 h3 h4 => ?_, fun h => ?_, fun h h2 => ?_, fun h h2 => ?_⟩⟩
  · cases hm : s.trace.config.markers
    · simp [State.traceMarker, hm]
    · obtain h | h | h := h
      · simp [hm] at h
      all_goals simp [State.traceMarker, hm, State.traceTake, TraceUnit.take, h]
  · have h3 : ¬ (s.trace.config.mode = .stop ∧ Config.traceCapacity ≤ s.trace.records.length) := by
      simp only [Config.traceCapacity]
      rintro ⟨h5, h6⟩
      obtain h7 | h7 := h2
      · exact h7 h5
      · omega
    simp [State.traceMarker, hm, State.traceTake, TraceUnit.take, h, h3, TraceUnit.append_eq _ hl]
  · have h5 : s.trace.newest = some last.seq := by simp [TraceUnit.newest, h4]
    simp [State.traceMarker, hm, State.traceTake, TraceUnit.take, h, h2, h3, Config.traceCapacity, h5, State.raise,
      EventUnit.raise, TraceUnit.notice]
    rw [← detailBytes_seq 1 (by decide)]
    exact s.events.raise_source .traceStopped _
  · simp [State.traceMarker, hm, State.traceTake, TraceUnit.take, h, TraceUnit.append_eq _ hl]
  · have h5 : s.trace.postRemaining - 1 ≠ 0 := by omega
    simp [State.traceMarker, hm, State.traceTake, TraceUnit.take, h, h5, TraceUnit.append_eq _ hl]
  · simp [State.traceMarker, hm, State.traceTake, TraceUnit.take, h, h2, State.raise, EventUnit.raise, TraceUnit.notice,
      TraceUnit.append_eq _ hl]
    rw [← detailBytes_seq 2 (by decide)]
    exact s.events.raise_source .traceStopped _

/-- A raise that is not the trigger of an armed unit leaves the trace unit as it is. -/
theorem TraceUnit.notice_eq {t : TraceUnit} {src : EventSource} (h : t.state ≠ .armed ∨ t.config.source ≠ some src) :
    t.notice src = t := by
  unfold TraceUnit.notice
  rw [if_neg]
  rintro ⟨h1, h2⟩
  exact h.elim (· h1) (· h2)

/-- The event trigger of an armed unit fires. -/
theorem TraceUnit.notice_fires {t : TraceUnit} {src : EventSource} (h : t.state = .armed) (h2 : t.config.source = some src) :
    t.notice src = t.triggered := by
  simp [TraceUnit.notice, h, h2, TraceUnit.triggered, TraceUnit.newest]

/-- A marker neither arms a trace unit nor disarms it. -/
theorem State.traceMarker_armed (s : State) (m : Marker) :
    (s.traceMarker m).trace.state = .armed ↔ s.trace.state = .armed := by
  unfold State.traceMarker State.traceTake TraceUnit.take State.raise TraceUnit.notice
  cases hs : s.trace.state <;> simp only <;> repeat' split
  all_goals simp_all [TraceUnit.append]

/-- A marker leaves the configuration as it is. -/
theorem State.traceMarker_config (s : State) (m : Marker) : (s.traceMarker m).trace.config = s.trace.config := by
  unfold State.traceMarker State.traceTake TraceUnit.take State.raise TraceUnit.notice
  cases s.trace.state <;> simp only <;> repeat' split
  all_goals simp_all [TraceUnit.append]

/-- A marker and a raise that come in one step, in either order where it shows (R138, R142). -/
theorem State.recordWith_markedWith (s : State) (m : Marker) {src : EventSource} (d : Word)
    (hsrc : EventSource.traceStopped.index ≠ src.index) :
    s.markedWith (s.recordWith (fun s => s.traceMarker m) [(src, d)]) m src := by
  have stop : ∀ x : State, (x.raise src d).stopSource = x.stopSource := fun x => x.events.raise_other _ _ _ hsrc
  refine ⟨fun h => ?_, fun h h2 => ?_⟩
  · have hs : s.orderShows [(src, d)] = false := by
      simp only [State.orderShows, List.any_cons, List.any_nil, Bool.or_false, Bool.and_eq_false_imp, beq_iff_eq]
      intro h1
      exact beq_eq_false_iff_ne.2 (h.resolve_left (fun n => n h1))
    simp only [State.recordWith, hs, Bool.false_eq_true, if_false, State.raiseAll, List.foldl_cons, List.foldl_nil]
    have ht : ((s.traceMarker m).raise src d).trace = (s.traceMarker m).trace := by
      refine TraceUnit.notice_eq ?_
      rw [State.traceMarker_config]
      exact h.imp (fun n h3 => n ((s.traceMarker_armed m).1 h3)) id
    have := s.traceMarker_marked m
    simp only [State.marked, ht, stop] at this ⊢
    exact this
  · have hs : s.orderShows [(src, d)] = true := by simp [State.orderShows, h, h2]
    simp only [State.recordWith, hs, if_true, State.raiseAll, List.foldl_cons, List.foldl_nil]
    generalize hx : ({ s with orderChoices := s.orderChoices + 1 } : State) = x
    have x1 : x.trace = s.trace := by subst hx; rfl
    have x2 : x.stopSource = s.stopSource := by subst hx; rfl
    have x3 : x.timeBase = s.timeBase := by subst hx; rfl
    split
    · have hm := x.traceMarker_marked m
      simp only [State.marked, x1, x2, x3] at hm
      refine .inl ⟨x.traceMarker m, hm, TraceUnit.notice_fires ?_ ?_, stop _⟩
      · rw [State.traceMarker_armed, x1, h]
      · rw [State.traceMarker_config, x1, h2]
    · have y1 : (x.raise src d).trace = s.trace.triggered := by
        rw [← x1] at h h2 ⊢
        exact TraceUnit.notice_fires h h2
      have y2 : (x.raise src d).stopSource = s.stopSource := (stop x).trans x2
      have y3 : (x.raise src d).timeBase = s.timeBase := x3
      have hm := (x.raise src d).traceMarker_marked m
      simp only [State.marked, y1, y2, y3] at hm
      exact .inr hm

/-! ### Line store -/

@[simp] theorem LineStore.setLine_self (st : LineStore) (l : LineIdx) (x : StoreLine) :
    (st.setLine l x).lines[l.val] = x := by
  simp [LineStore.setLine]

theorem LineStore.setLine_ne (st : LineStore) (l m : LineIdx) (x : StoreLine) (h : m ≠ l) :
    (st.setLine l x).lines[m] = st.lines[m] := by
  simp only [LineStore.setLine, Fin.getElem_fin]
  exact Vector.getElem_set_ne _ _ (fun hij => h (Fin.ext hij.symm))

@[simp] theorem LineStore.setLine_freeList (st : LineStore) (l : LineIdx) (x : StoreLine) :
    (st.setLine l x).freeList = st.freeList := rfl

@[simp] theorem LineStore.setLine_badList (st : LineStore) (l : LineIdx) (x : StoreLine) :
    (st.setLine l x).badList = st.badList := rfl

@[simp] theorem LineStore.setLine_threshold (st : LineStore) (l : LineIdx) (x : StoreLine) :
    (st.setLine l x).threshold = st.threshold := rfl

/-- A release lowers one count and moves the line to a list exactly when the count reaches 0. -/
theorem LineStore.release_spec (st : LineStore) (l : LineIdx) :
    (st.release l).lines[l] = { st.lines[l] with refCount := st.lines[l].refCount - 1 } ∧
    (∀ m, m ≠ l → (st.release l).lines[m] = st.lines[m]) ∧
    (st.release l).threshold = st.threshold ∧
    (st.release l).freeList =
      (if st.lines[l].refCount - 1 = 0 ∧ st.lines[l].bad = false then st.freeList ++ [l] else st.freeList) ∧
    (st.release l).badList =
      (if st.lines[l].refCount - 1 = 0 ∧ st.lines[l].bad = true then st.badList ++ [l] else st.badList) := by
  simp only [Fin.getElem_fin]
  have hne : ∀ m : LineIdx, m ≠ l → ∀ x, (st.setLine l x).lines[m.val] = st.lines[m.val] :=
    fun m hm x => LineStore.setLine_ne st l m x hm
  by_cases h0 : st.lines[l.val].refCount - 1 = 0 <;> by_cases hb : st.lines[l.val].bad = true <;>
    exact ⟨by simp [LineStore.release, h0, hb], fun m hm => by simpa [LineStore.release, h0, hb] using hne m hm _,
      by simp [LineStore.release, h0, hb], by simp [LineStore.release, h0, hb], by simp [LineStore.release, h0, hb]⟩

/-- A disturbance changes words only: counts, marks, lists and threshold stay. -/
theorem LineStore.upset_frame (st : LineStore) (us : List Upset) :
    (∀ l : LineIdx, (st.upset us).lines[l].refCount = st.lines[l].refCount ∧
      (st.upset us).lines[l].bad = st.lines[l].bad) ∧
    (st.upset us).freeList = st.freeList ∧ (st.upset us).badList = st.badList ∧
    (st.upset us).threshold = st.threshold := by
  induction us generalizing st with
  | nil => exact ⟨fun l => ⟨rfl, rfl⟩, rfl, rfl, rfl⟩
  | cons u us ih =>
    obtain ⟨h1, h2, h3, h4⟩ := ih (st.setLine u.line
      { st.lines[u.line] with words := st.lines[u.line].words.set u.word.val ⟨u.data, u.agrees⟩ u.word.isLt })
    refine ⟨fun l => ?_, h2, h3, h4⟩
    refine ⟨(h1 l).1.trans ?_, (h1 l).2.trans ?_⟩
    all_goals
      by_cases hl : l = u.line
      · subst hl; simp
      · rw [LineStore.setLine_ne _ _ _ _ hl]

/-- A failed test: an unmarked line is marked, LINE_FAULT raised, every other line as it was. -/
theorem State.lineFailed_spec (s : State) (l : LineIdx) :
    (s.store.lines[l].bad = true → s.lineFailed l = s) ∧
    (s.store.lines[l].bad = false →
      (s.lineFailed l).store = s.store.setLine l { s.store.lines[l] with bad := true } ∧
      (s.lineFailed l).events = s.events.raise .lineFault (detailBytes (BitVec.ofNat 8 l.val) 0 0)) := by
  simp only [Fin.getElem_fin]
  refine ⟨fun h => by simp [State.lineFailed, h], fun h => ?_⟩
  have hs : s.lineFailed l =
      ({ s with store := s.store.setLine l { s.store.lines[l.val] with bad := true } }).raise .lineFault
        (detailBytes (BitVec.ofNat 8 l.val) 0 0) := by
    simp [State.lineFailed, h]
  rw [hs]
  exact ⟨rfl, rfl⟩

/-- An allocation takes the head of the free list, fills it and sets its count to 1; with an empty list it is refused. -/
theorem State.allocate_spec (s : State) (mask : BitVec 8) (data : List Word) :
    (s.store.freeList = [] → s.allocate mask data = none) ∧
    (∀ l rest, s.store.freeList = l :: rest →
      ∃ s', s.allocate mask data = some (l, s') ∧
        s'.store =
          { s.store with freeList := rest }.setLine l
            { s.store.lines[l] with words := filledWords (patchWord mask data), refCount := 1 } ∧
        s'.tables = s.tables ∧ s'.roles = s.roles ∧ s'.scu = s.scu ∧ s'.svp = s.svp ∧ s'.hbi = s.hbi ∧
        s'.port = s.port ∧ s'.loader = s.loader ∧ s'.pending = s.pending ∧
        s'.events =
          (if s.store.threshold.toNat ≤ rest.length + 1 ∧ rest.length < s.store.threshold.toNat then
            s.events.raise .freeLow (detailBytes (BitVec.ofNat 8 rest.length) 0 0)
          else s.events)) := by
  refine ⟨fun h => by simp [State.allocate, h], fun l rest h => ?_⟩
  have hst : ∀ st : LineStore,
      (st.fill l mask data).setLine l { (st.fill l mask data).lines[l] with refCount := 1 } =
        st.setLine l { st.lines[l] with words := filledWords (patchWord mask data), refCount := 1 } := by
    intro st
    simp [LineStore.fill, LineStore.setLine]
  unfold State.allocate
  rw [h]
  dsimp only
  split
  · exact ⟨_, rfl, hst _, rfl, rfl, rfl, rfl, rfl, rfl, rfl, rfl, rfl⟩
  · exact ⟨_, rfl, hst _, rfl, rfl, rfl, rfl, rfl, rfl, rfl, rfl, rfl⟩

/-! ### Memory port -/

/-- A request at a FREE port starts at once; at a BUSY port it waits and the access in progress is untouched. -/
theorem MemPort.request_spec (p : MemPort) (now : Word) (who : Requester) (r : PortRequest) :
    (p.access = none → p.request now who r = p.start now who r) ∧
    (∀ a, p.access = some a → p.request now who r = p.setWaiting (some r) who ∧
      (p.request now who r).access = some a) := by
  refine ⟨fun h => by simp [MemPort.request, h], fun a h => ?_⟩
  have : p.request now who r = p.setWaiting (some r) who := by simp [MemPort.request, h]
  refine ⟨this, ?_⟩
  rw [this]
  cases who <;> exact h

/-- The grant at a port that becomes FREE: host path, then loader, then verifier, or none. -/
theorem MemPort.free_spec (p : MemPort) (now : Word) :
    (∀ r, p.host = some r →
      p.free now = ({ p with access := none, host := none }).start now .host r) ∧
    (∀ r, p.host = none → p.loader = some r →
      p.free now = ({ p with access := none, loader := none }).start now .loader r) ∧
    (∀ r, p.host = none → p.loader = none → p.verifier = some r →
      p.free now = ({ p with access := none, verifier := none }).start now .verifier r) ∧
    (p.host = none → p.loader = none → p.verifier = none → p.free now = { p with access := none }) := by
  refine ⟨fun r h => ?_, fun r h1 h2 => ?_, fun r h1 h2 h3 => ?_, fun h1 h2 h3 => ?_⟩
  · simp [MemPort.free, h, MemPort.setWaiting]
  · simp [MemPort.free, h1, h2, MemPort.setWaiting]
  · simp [MemPort.free, h1, h2, h3, MemPort.setWaiting]
  · simp [MemPort.free, h1, h2, h3]

end Sys2Proof.Machine
end

