-- ==== Sys2Proof/Laws/Serve.lean ====
section
/-! SUPPORT. One lemma that says what each walk over beats or entries comes to, and what an expiry does; later proofs cite
them instead of unfolding a walk. -/

namespace Sys2Proof.Machine

open Sys2Proof

/-! ### Expiries -/

/-- With no expiry due the gate timer does nothing. -/
theorem State.expireGate_of_not {s : State} (h : s.gateTimerExpired = false) : s.expireGate = s := by
  simp [State.expireGate, h]

/-- With no expiry due the port does nothing. -/
theorem State.expireAccess_of_not {s : State} (h : ∀ a ∈ s.port.access, a.expired = false) : s.expireAccess = s := by
  unfold State.expireAccess
  split
  · rfl
  · rw [h _ (by assumption)]; rfl

@[simp] theorem State.expireGate_timeBase (s : State) : s.expireGate.timeBase = s.timeBase := by
  unfold State.expireGate; split; dsimp only; split <;> rfl; rfl

@[simp] theorem State.expireGate_port (s : State) : s.expireGate.port = s.port := by
  unfold State.expireGate; split; dsimp only; split <;> rfl; rfl

@[simp] theorem State.tick_timeBase (s : State) : s.tick.timeBase = s.timeBase + 1 := rfl
@[simp] theorem State.tick_hbi (s : State) : s.tick.hbi = s.hbi := rfl
@[simp] theorem State.tick_scu (s : State) : s.tick.scu = s.scu := rfl
@[simp] theorem State.tick_loader (s : State) : s.tick.loader = s.loader := rfl
@[simp] theorem State.tick_tables (s : State) : s.tick.tables = s.tables := rfl
@[simp] theorem State.tick_store (s : State) : s.tick.store = s.store := rfl
@[simp] theorem State.tick_events (s : State) : s.tick.events = s.events := rfl
@[simp] theorem State.tick_svp (s : State) : s.tick.svp = s.svp := rfl

/-! ### Beat by beat -/

/-- The line number of a host word address (R7). -/
theorem lineOf_toNat (a : HostWordAddr) : (lineOf a).toNat = a.toNat / 8 := by
  simp [lineOf, BitVec.extractLsb', BitVec.toNat_ofNat]
  have := a.isLt
  omega

/-- The address of the beat at hand, in the statements' words. -/
theorem Txn.beatAddr_eq (t : Txn) : t.beatAddr = t.dec.addrAt t.done := by
  simp [Txn.beatAddr, Decision.addrAt, Decision.idxAt, lineOf_toNat, wordIdxOf]

theorem State.awaitBeat_eq (s : State) (t q) : s.awaitBeat t q = s.waitsFor t q := rfl

/-- The detail of LINE_FAULT is the line index (R180). -/
theorem detailBytes_line (l : LineIdx) : detailBytes (BitVec.ofNat 8 l.val) 0 0 = BitVec.ofNat 32 l.val := by
  apply BitVec.eq_of_toNat_eq
  have h := l.isLt
  simp only [detailBytes, BitVec.toNat_append, BitVec.toNat_ofNat]
  simp
  omega

/-- All that the serving of read beats can come to (R9 to R12). -/
theorem State.serveRead_spec : ∀ (bs : List BeatSource) (t : Txn) (s : State), s.readGoesOn t bs (State.serveRead bs t s) := by
  intro bs t s ls
  induction ls generalizing bs t s with
  | nil =>
    intro tail w x hb _ hx hw
    simp at hb hx hw
    subst hx hw
    cases bs with
    | nil => subst hb; rfl
    | cons b bs =>
      subst hb
      cases b with
      | memory => simp only [State.serveRead, State.awaitBeat_eq, Txn.memoryRead, Txn.beatAddr_eq]
      | target ce tg => rfl
      | store l =>
        refine ⟨fun h => ?_, fun h h2 => ?_⟩
        · unfold State.serveRead; dsimp only; rw [if_pos h]; simp only [State.awaitBeat_eq, Txn.memoryRead, Txn.beatAddr_eq]
        · have h2' : s.store.lines[l].words[beatIdx (wordIdxOf t.dec.addr) (beatCount t.dec.len) t.done].agrees = false := h2
          unfold State.serveRead; dsimp only; rw [if_neg (by rw [h]; decide), if_neg (by rw [h2']; decide)]
          simp only [State.awaitBeat_eq, Txn.memoryRead, Txn.beatAddr_eq]
          unfold State.lineFailed
          rw [if_neg (by rw [h]; decide), detailBytes_line l]
  | cons l ls ih =>
    intro tail w x hb hg hx hw
    obtain ⟨hl1, hl2⟩ := hg 0 l rfl
    simp only [Nat.add_zero] at hl2
    have hl2' : s.store.lines[l].words[beatIdx (wordIdxOf t.dec.addr) (beatCount t.dec.len) t.done].agrees = true := hl2
    subst hb
    have := ih (ls.map .store ++ tail) { t with done := t.done + 1 }
      (s.strobe { hrd := some s.store.lines[l].words[t.dec.idxAt t.done].data, hstb := true, hend := (ls.map BeatSource.store ++ tail).isEmpty, herr := false })
      tail w x rfl
      (by
        intro j k hk
        have := hg (j+1) k (by simpa using hk)
        simpa [State.strobe, Nat.add_assoc, Nat.add_comm 1 j] using this)
      (by rw [hx]; simp [Nat.add_assoc, Nat.add_comm 1])
      (by
        rw [hw]
        simp [State.strobe, List.zipIdx_cons, Nat.add_assoc, Nat.add_comm 1]
        refine ⟨?_, ?_⟩
        · cases ls <;> simp
        · rw [show (1:ℕ) = 0 + 1 from rfl, List.zipIdx_succ, List.map_map]; rfl)
    have e : State.serveRead (List.map BeatSource.store (l :: ls) ++ tail) t s = State.serveRead (ls.map .store ++ tail) { t with done := t.done + 1 }
      (s.strobe { hrd := some s.store.lines[l].words[t.dec.idxAt t.done].data, hstb := true, hend := (ls.map BeatSource.store ++ tail).isEmpty, herr := false }) := by
      show State.serveRead (BeatSource.store l :: (ls.map .store ++ tail)) t s = _
      conv => lhs; unfold State.serveRead
      dsimp only
      rw [if_neg (by rw [hl1]; decide), if_pos hl2']
      rfl
    rw [e]
    exact this

/-- All that the serving of forwarded write beats can come to (R14, R103). -/
theorem State.serveWrite_spec : ∀ (n : Nat) (t : Txn) (s : State), t.writes.length = n → t.dec.region.policy = .forward →
    s.writeGoesOn t (State.serveWrite n t s) := by
  intro n t s hn hp skip
  induction skip generalizing n t s with
  | nil =>
    intro tail w x hb _ hx hw
    simp at hb hx hw
    subst hx hw
    rw [hb] at hn
    cases tail with
    | nil =>
      subst hn
      have e : ({ dec := t.dec, done := t.done, fellBack := t.fellBack, writes := [] } : Txn) = t := by cases t; simp_all
      show s.endTransaction t.dec true (writeOutcome (s.matchedEntry t.dec) t) [] = s.endTransaction t.dec true _ []
      have : writeOutcome (s.matchedEntry t.dec) t = (match s.matchedEntry t.dec with
          | none => TxnOutcome.pass
          | some e => match e.body with
            | .watch _ _ => .watched
            | _ => .pass) := by
        unfold writeOutcome
        rw [hp, if_neg (by decide)]
        cases hm : s.matchedEntry t.dec with
        | none => rfl
        | some e => obtain ⟨_, b, _, _, _⟩ := e; cases b <;> rfl
      exact congrArg (fun o => s.endTransaction t.dec true o []) this
    | cons b bs =>
      intro hb2
      subst hn
      have hw : t.writeBeat = b := by simp [Txn.writeBeat, hb]
      simp only [List.length_cons, State.serveWrite]
      rw [if_neg (by rw [hw, hp]; exact fun h => h.elim (by decide) hb2)]
      rw [hw, State.awaitBeat_eq, Txn.beatAddr_eq]
      cases t; simp_all
  | cons b skip ih =>
    intro tail w x hb hg hx hw
    have hb0 := hg b (by simp)
    have hwb : t.writeBeat = b := by simp [Txn.writeBeat, hb]
    rw [hb] at hn
    simp only [List.cons_append, List.length_cons] at hn
    subst hn
    have := ih (skip ++ tail).length t.next (s.strobe (writeStrobe ((skip ++ tail).length == 0))) (by simp [Txn.next, hb]) hp
      tail w x (by simp [Txn.next, hb]) (fun c hc => hg c (by simp [hc]))
      (by rw [hx]; simp [Txn.next, Nat.add_assoc, Nat.add_comm 1])
      (by
        rw [hw]
        simp only [State.strobe, List.length_cons, List.range_succ_eq_map]
        simp [writeStrobe]
        cases skip <;> cases tail <;> simp)
    have e : State.serveWrite ((skip ++ tail).length + 1) t s = State.serveWrite (skip ++ tail).length t.next (s.strobe (writeStrobe ((skip ++ tail).length == 0))) := by
      rw [State.serveWrite, if_pos (by rw [hwb]; exact .inr hb0)]
    rw [e]
    exact this

/-- A SUBSTITUTE entry that passes names an unmarked line whose masked words agree. -/
theorem State.passesWalk_line (s : State) (e : Entry) (h : s.passesWalk e) (m l) (hb : e.body = .substitute m l) :
    (s.store.lines[l].bad || s.store.lines[l].anyFails (maskedIdxs m)) = false := by
  obtain ⟨h1, h2⟩ := h.2 m l hb
  rw [h1, Bool.false_or]
  simp only [StoreLine.anyFails, List.any_eq_false, maskedIdxs, List.mem_filter]
  intro i hi
  rw [h2 i hi.2]; decide

/-- An entry that passes without an access is fed to the CRC-32 and left behind. -/
theorem State.walkEntries_pass (s : State) (x : Slot × Entry) (rest) (v : VerifyRun) (h : s.passesWalk x.2) :
    State.walkEntries (x :: rest) v s = State.walkEntries rest { v with crc := crc32Feed v.crc (s.entryBytes x.2), origin := [], passed := v.passed + 1 } s := by
  rw [State.walkEntries]
  cases hb : x.2.body with
  | substitute m l => dsimp only; rw [if_neg (by rw [State.passesWalk_line s _ h m l hb]; decide)]; simp only [h.1]
  | redirect _ _ => simp only [h.1]
  | watch _ _ => simp only [h.1]
theorem crc32Feed_append (r a b) : crc32Feed r (a ++ b) = crc32Feed (crc32Feed r a) b := List.foldl_append ..
/-- All that the walk of a verification can come to (R51, R52). -/
theorem State.walkEntries_spec : ∀ (todo : List (Slot × Entry)) (v : VerifyRun) (s : State),
    s.walkGoesOn v.starter v.passed todo v.crc (State.walkEntries todo v s) := by
  intro todo v s pre
  induction pre generalizing todo v with
  | nil =>
    intro tail ht _
    simp at ht; subst ht
    cases todo with
    | nil => intro c hc; subst hc; rfl
    | cons x rest =>
      refine ⟨fun m l hb => ⟨fun h => ?_, fun h hw => ?_⟩, fun ho hp c hc => ?_⟩
      · rw [State.walkEntries]; simp only [hb]
        rw [if_pos (by rw [h]; rfl)]
        show (s.lineFailed l).endVerification _ = _
        rw [(State.lineFailed_spec s l).1 h]
      · rw [State.walkEntries]; simp only [hb]
        obtain ⟨i, hi, hi2⟩ := hw
        have hf : s.store.lines[l].anyFails (maskedIdxs m) = true := by
          simp only [StoreLine.anyFails, List.any_eq_true]
          exact ⟨i, by simp only [maskedIdxs, List.mem_filter, hi, and_true]; clear hi hi2; revert i; decide, by rw [hi2]; rfl⟩
        rw [if_pos (by rw [hf]; simp)]
        show (s.lineFailed l).endVerification _ = _
        unfold State.lineFailed
        rw [if_neg (by rw [h]; decide), detailBytes_line l]
      · obtain ⟨o, ho⟩ := Option.isSome_iff_exists.1 ho
        have key : State.walkEntries (x :: rest) v s = s.requestOrigin x.2 { v with crc := crc32Feed v.crc (s.entryBytes x.2), origin := [] } := by
          rw [State.walkEntries]
          cases hb : x.2.body with
          | substitute m l => dsimp only; rw [if_neg (by rw [State.passesWalk_line s _ hp m l hb]; decide)]; simp only [ho]
          | redirect _ _ => simp only [ho]
          | watch _ _ => simp only [ho]
        rw [key]
        subst hc
        unfold State.requestOrigin
        refine ⟨fun h => ?_, fun h reg hr => ?_⟩
        · exact if_pos h
        · subst hr
          refine (if_neg h).trans ?_
          simp [State.request]
  | cons y pre ih =>
    intro tail ht hp
    subst ht
    have hy := hp y (by simp)
    have := ih (pre ++ tail) { v with crc := crc32Feed v.crc (s.entryBytes y.2), origin := [], passed := v.passed + 1 } tail rfl
      (fun x hx => hp x (by simp [hx]))
    rw [List.cons_append, State.walkEntries_pass s y _ v hy]
    cases tail with
    | nil =>
      intro c hc
      refine this c ?_
      rw [hc]; simp [crc32Feed_append]
    | cons x rest =>
      refine ⟨this.1, fun ho hp c hc => ?_⟩
      obtain ⟨h1, h2⟩ := this.2 ho hp c hc
      refine ⟨h1, fun hk reg hr => ?_⟩
      rw [h2 hk reg (by rw [hr]; simp [crc32Feed_append])]
      simp [Nat.add_assoc, Nat.add_comm 1]
end Sys2Proof.Machine
end

