-- ==== Sys2Proof/Tests/Slice0.lean ====
section
/-! SUPPORT. Tests of the model: single steps whose results are worked out by hand from the rules named, and for each
statement that has hypotheses a state and operands that meet them (`test_hyp_…`, one clause after the other). -/

namespace Sys2Proof.Tests

open Sys2Proof Sys2Proof.Machine

set_option Elab.async false

/-! ### Well-formed and ill-formed commands -/

theorem test_wellFormed_refuses_write_without_beats :
    Instr.wellFormed (.hostRequest { addr := 0, write := true, fetch := false, len := 1, writes := [] }) = false := by
  decide

theorem test_wellFormed_refuses_read_with_beats :
    Instr.wellFormed (.hostRequest { addr := 0, write := false, fetch := false, len := 0, writes := [⟨0, 15⟩] }) =
      false := by
  decide

theorem test_wellFormed_takes_two_beat_write :
    Instr.wellFormed
      (.hostRequest { addr := 0, write := true, fetch := false, len := 1, writes := [⟨0, 15⟩, ⟨1, 3⟩] }) = true := by
  decide

/-- No row of the table has bits. -/
theorem test_no_word_spells_a_command : decodeTableWord 8 0x20 = none := rfl

/-! ### Small states -/

/-- What a command leaves. -/
def after (c : Instr) (s : State) : State :=
  match exec c s with
  | .next t => t
  | .fault _ => s
  | .refused _ => s

/-- A state with one command waiting in the service port's command queue, under tag 7. -/
def cmd (s : State) (code : Byte) (p : List Byte) : State :=
  { s with svp := { s.svp with commands := [⟨7, code, p⟩] } }

/-- The latest response: its result and its payload. -/
def reply (s : State) : Option (ResultCode × List Byte) := s.svp.responses.getLast?.map fun r => (r.result, r.payload)

/-- A state with the staged set in a state, with a table. -/
def staged (s : State) (st : StagedState) (t : Table) : State :=
  { s with scu := { s.scu with state := st }, tables := { s.tables with b := t } }

/-- A request waiting at the host bus. -/
def waiting (s : State) (r : HostRequest) : State := { s with hbi := { s.hbi with state := .waiting r } }

/-- A read of `2 ^ len` beats. -/
def read (addr : HostWordAddr) (fetch : Bool) (len : BitVec 2) : HostRequest :=
  { addr := addr, write := false, fetch := fetch, len := len, writes := [] }

/-- A write of one beat. -/
def write1 (addr : HostWordAddr) (b : WriteBeat) : HostRequest :=
  { addr := addr, write := true, fetch := false, len := 0, writes := [b] }

/-- A SUBSTITUTE of the words 0 and 1 of line 0x100 on store line 0. -/
def sub : Entry :=
  { line := 0x100, body := .substitute 3 0, origin := none, reportFirstHit := true, hitCount := 0 }

/-- A WATCH of line 0x101 with threshold 1 for writes. -/
def watch : Entry :=
  { line := 0x101, body := .watch 1 .writes, origin := some 0x1234, reportFirstHit := false, hitCount := 0 }

/-- A REDIRECT of line 0x102 to line 7 of CE1. -/
def redirect : Entry :=
  { line := 0x102, body := .redirect .ce1 7, origin := none, reportFirstHit := false, hitCount := 0 }

/-- A table of the three entries in slots 0, 1 and 2. -/
def three : Table := ((Table.empty.setSlot 0 (some sub)).setSlot 1 (some watch)).setSlot 2 (some redirect)

/-- Store line 0 filled for `sub` and referenced `n` times. -/
def usedLine (n : Nat) : StoreLine :=
  { words := filledWords fun i => if i.val < 2 then 0xA0 + BitVec.ofNat 32 i.val else 0, refCount := n, bad := false }

/-- The line store with line 0 referenced `n` times. -/
def usedStore (n : Nat) : LineStore :=
  { LineStore.reset.setLine 0 (usedLine n) with freeList := (List.finRange 255).map Fin.succ }

/-- The line store with line 0 referenced `n` times and marked bad. -/
def badStore (n : Nat) : LineStore := (usedStore n).setLine 0 { usedLine n with bad := true }

/-- Region 0: PATCHABLE, 64 KiB from host address 0, on CE0 from offset 0x10000, one wait state, traced. -/
def patchable : RegionRecord :=
  { enabled := true, base := 0, sizeExp := 4, kind := .patchable, ce := .ce0, offset := 0x10000, wait := 1,
    policy := .forward, trace := true }

/-- The three entries active under generation 3 in a PATCHABLE region. -/
def patched : State :=
  { State.reset with
    regions := { RegionTable.reset with records := RegionTable.reset.records.set 0 patchable }
    tables := { a := { three with generation := 3 }, b := Table.empty, c := Table.empty }
    store := usedStore 1 }

/-- The staged set OPEN with the three entries. -/
def opened : State := { staged State.reset .opened three with store := usedStore 1 }

/-- The three entries without their origin check, sealed under generation 4. -/
def plain : Table :=
  { three.setSlot 1 (some { watch with origin := none }) with generation := 4, expectedCrc := 0x11 }

/-- The staged set in a state that carries a generation. -/
def held (st : StagedState) (res : VerifyResult) : State :=
  { staged State.reset st { plain with result := res } with store := usedStore 1 }

/-- A commit pending, of a mode and a requester. -/
def pendingCommit (a : CommitArgs) (who : CommitRequester) : State :=
  { held .commitPending .ok with
    scu := { Scu.reset with
      state := .commitPending
      commit := some { args := a, requester := who, gateOpen := false, deadline := a.deadline 0 } } }

/-- AT_BOUNDARY. -/
def atBoundary : CommitArgs := { mode := .atBoundary, gateBase := 0, gateLength := 0, timeout := 0 }

/-- GATED on the last line of the host address space, with a timeout of one millisecond. -/
def gated : CommitArgs := { mode := .gated, gateBase := 0x7FFFFF, gateLength := 1, timeout := 1 }

/-- A transaction in flight, waiting for its first word. -/
def inFlight (s : State) (r : HostRequest) : State :=
  { s with
    hbi := { s.hbi with state := .inFlight { dec := s.decisionFor r, done := 0, fellBack := false, writes := r.writes } }
    port := s.port.start s.timeBase .host
      (readRequest .ce0 (BitVec.ofNat 26 ((s.regions.classify (4 * r.addr.toNat)).mapped (4 * r.addr.toNat))) 15) }

/-- An access in progress for a requester. -/
def busy (s : State) (who : Requester) (steps : Nat) (givenUp : Bool) : State :=
  { s with port := { s.port with
      access := some { who := who, givenUp := givenUp, req := readRequest .ce1 0x3FFFFFC 15, timeout := 50, start := 0,
                       steps := steps } } }

/-- A select period with bytes clocked in. -/
def period (s : State) (bs : List Byte) : State :=
  { after .selectPeriodStart s with svp := { (after .selectPeriodStart s).svp with shifter := bs } }

/-! ### Check values (R174) -/

theorem test_crc16_check_value : crc16 [0x31, 0x32, 0x33, 0x34, 0x35, 0x36, 0x37, 0x38, 0x39] = 0x29B1 := by
  decide +kernel

theorem test_crc32_check_value : crc32 [0x31, 0x32, 0x33, 0x34, 0x35, 0x36, 0x37, 0x38, 0x39] = 0xCBF43926 := by
  decide +kernel

theorem test_crc32_of_nothing : crc32 [] = 0 := by decide +kernel

/-! ### One step of each family -/

/-- R90, R80: BOOTMODE 1 holds the host and asks for the first word of slot 2, at 0x00F0_2000. -/
theorem test_pinResetEnd_starts_load :
    let t := after (.pinResetEnd 1 2) { State.reset with inReset := true }
    t.hbi.held = true ∧ t.scu.state = .loading ∧ (t.port.access.map fun a => a.req.addr) = some 0x00F02000 := by
  decide +kernel

/-- R120: nothing is left in flight by RESETn low. -/
theorem test_pinReset_drops_transaction :
    (after .pinReset (inFlight State.reset (read 0 false 0))).inFlight = false := by decide +kernel

/-- R134: the counter wraps. -/
theorem test_timeBase_wraps : (after .timeBaseStep { State.reset with timeBase := 0xFFFFFFFF }).timeBase = 0 := by
  decide +kernel

/-- R65: the step after the deadline finds the commit withdrawn, with COMMIT_RESULT TIMEOUT of generation 4. -/
theorem test_timeBase_takes_due_expiry :
    let t := after .timeBaseStep { pendingCommit gated .service with timeBase := 1000 }
    t.timeBase = 1001 ∧ t.scu.commit = none ∧ t.events.sources[EventSource.commitResult.index].detail = 0x40002 := by
  decide +kernel

/-- R63, R65: the FETCH that ends one step before the deadline opens the gate, one that ends at it does not. -/
theorem test_gate_opens_before_deadline_only :
    let s := inFlight (pendingCommit gated .service) (read 0x3FFFFFF true 0)
    ((after (.accessComplete 0 []) { s with timeBase := 999 }).scu.commit.map fun c => c.gateOpen) = some true ∧
    ((after (.accessComplete 0 []) { s with timeBase := 1000 }).scu.commit.map fun c => c.gateOpen) = some false := by
  decide +kernel

/-- R123, R126: a read holds MOEn low after its address phase and never MWEn; between accesses all is high. -/
theorem test_pins_of_a_read :
    let p := (busy State.reset .host 0 false).port
    (p.pins .address).moen = true ∧ (p.pins .waitStates).moen = false ∧ (p.pins .ready).moen = false ∧
    (p.pins .ready).mwen = true ∧ (p.pins .ready).ce1n = false ∧ (p.pins .ready).ce0n = true ∧
    (p.pins .ready).ma = some 0xFFFFFF ∧ State.reset.port.pins .ready = ⟨true, true, none, 15, true, true, none⟩ := by
  decide +kernel

/-- R7: four beats from word index 6 run 6, 7, 4, 5. -/
theorem test_beats_wrap_in_group : (List.range 4).map (beatIdx 6 4) = [6, 7, 4, 5] := by decide +kernel

/-- R9, R12: a two-beat read of the two patched words is served from the store, SUBSTITUTED, with no access. -/
theorem test_read_served_from_store :
    let t := after (.acceptance []) (waiting patched (read 0x800 false 1))
    t.hbi.strobes = [{ hrd := some 0xA0, hstb := true, hend := false, herr := false },
      { hrd := some 0xA1, hstb := true, hend := true, herr := false }] ∧ t.port.access = none ∧
    ((t.table .active).slots[(0 : Slot)].map fun e => e.hitCount) = some 1 ∧
    t.events.sources[EventSource.firstHit.index].detail = 0x100 := by
  decide +kernel

/-- R9: the next word of the line is not masked, so it is read from memory at the mapped address 0x1_2008. -/
theorem test_read_of_unmasked_word_asks_memory :
    (after (.acceptance []) (waiting patched (read 0x802 false 0))).port.access.map (fun a => a.req.addr) =
      some 0x12008 := by
  decide +kernel

/-- R11: a REDIRECT reads the same word index of line 7 of CE1. -/
theorem test_read_redirected :
    (after (.acceptance []) (waiting patched (read 0x813 false 0))).port.access.map (fun a => (a.req.ce, a.req.addr)) =
      some (.ce1, 0xEC) := by
  decide +kernel

/-- R14, R18: a write under the SUBSTITUTE goes to memory and raises WRITE_UNDER_PATCH with the byte address. -/
theorem test_write_under_patch_reported :
    let t := after (.accessComplete 0 []) (after (.acceptance []) (waiting patched (write1 0x800 ⟨0xFF, 15⟩)))
    t.inFlight = false ∧ t.events.sources[EventSource.writeUnderPatch.index].detail = 0x2000 := by
  decide +kernel

/-- R23: a word disturbed before its read marks the line, raises LINE_FAULT and falls back to memory. -/
theorem test_disturbed_word_falls_back :
    let t := after (.acceptance [⟨0, 0, 0, false⟩]) (waiting patched (read 0x800 false 0))
    t.store.lines[(0 : LineIdx)].bad = true ∧ t.events.sources[EventSource.lineFault.index].pending = true ∧
    (t.port.access.map fun a => a.req.addr) = some 0x12000 := by
  decide +kernel

/-- R128, R180: an access of 50 steps expires, and the host gets ERROR. -/
theorem test_expiry_ends_transaction :
    let s := inFlight State.reset (read 0 false 0)
    let s := { s with port := { s.port with access := s.port.access.map fun a => { a with steps := 50 } } }
    (after .accessExpiry s).inFlight = false ∧
      (after .accessExpiry s).events.sources[EventSource.downstreamTimeout.index].pending = true := by
  decide +kernel

/-- R4, R26, R45: ADD_ENTRY of a SUBSTITUTE takes slot 3 and the head of the free list, line 1. -/
theorem test_addEntry_takes_slot_and_line :
    let t := after .addEntry (cmd opened 0x22 [0x00, 0x02, 0, 1, 1, 0, 12, 0, 0x78, 0x56, 0x34, 0x12])
    reply t = some (.ok, [3, 1]) ∧ t.store.lines[(1 : LineIdx)].words[(0 : WordIdx)] = ⟨0x12345678, true⟩ ∧
    t.store.freeList.length = 254 := by
  decide +kernel

/-- R44: a record length that does not agree with the mask is refused. -/
theorem test_addEntry_refuses_wrong_length :
    reply (after .addEntry (cmd opened 0x22 [0x00, 0x02, 0, 1, 3, 0, 12, 0, 0x78, 0x56, 0x34, 0x12])) =
      some (.badArgument, []) := by
  decide +kernel

/-- R32: a SUBSTITUTE modified on its own line fills that line again. -/
theorem test_modifyEntry_refills_line :
    let t := after .modifyEntry (cmd opened 0x23 [0x00, 0x01, 0, 1, 4, 0, 12, 0, 1, 0, 0, 0])
    reply t = some (.ok, [0, 0]) ∧ t.store.lines[(0 : LineIdx)].words[(2 : WordIdx)].data = 1 ∧
    t.store.lines[(0 : LineIdx)].words[(0 : WordIdx)].data = 0 := by
  decide +kernel

/-- R29, R47: REMOVE_ENTRY puts the line at the tail of the free list. -/
theorem test_removeEntry_frees_line :
    let t := after .removeEntry (cmd opened 0x24 [0x00, 0x01, 0x00])
    reply t = some (.ok, [0]) ∧ t.store.freeList.getLast? = some 0 := by
  decide +kernel

/-- R42 and R40: OPEN_SET in EMPTY, and refused in OPEN. -/
theorem test_openSet : reply (after .openSet (cmd State.reset 0x20 [])) = some (.ok, [1]) ∧
    reply (after .openSet (cmd opened 0x20 [])) = some (.busyState, []) := by decide +kernel

/-- R28, R43: CLONE_ACTIVE shares the line and clears the hit counts. -/
theorem test_cloneActive_shares_line :
    let t := after .cloneActive (cmd patched 0x21 [])
    reply t = some (.ok, [3, 3, 0]) ∧ t.store.lines[(0 : LineIdx)].refCount = 2 := by
  decide +kernel

/-- R48: SEAL_SET records generation and expected CRC, and answers the entry count. -/
theorem test_sealSet : let t := after .sealSet (cmd opened 0x25 [4, 0, 0x44, 0x33, 0x22, 0x11])
    reply t = some (.ok, [3]) ∧ (t.table .staged).generation = 4 ∧ (t.table .staged).expectedCrc = 0x11223344 := by
  decide +kernel

/-- R49: UNSEAL_SET clears the record. -/
theorem test_unsealSet : let t := after .unsealSet (cmd (held .verified .ok) 0x26 [])
    t.scu.state = .opened ∧ (t.table .staged).result = .none := by decide +kernel

/-- R50, R53: the set CRC is of the records in ascending line number; 0x11 is not it. -/
theorem test_verifySet_compares_crc :
    let t := after (.verifySet []) (cmd (held .sealed .none) 0x27 [])
    t.scu.state = .failed ∧ (t.table .staged).result = .crcMismatch ∧
    t.scu.computedCrc = crc32
      ([0x00, 0x01, 0, 1, 3, 2, 16, 0, 0xA0, 0, 0, 0, 0xA1, 0, 0, 0] ++ [0x01, 0x01, 0, 3, 0, 0, 12, 0, 1, 0, 2, 0] ++
        [0x02, 0x01, 0, 2, 0, 0, 12, 0, 7, 0, 0, 1]) := by
  decide +kernel

/-- R56: DISCARD_SET answers the count and empties the set. -/
theorem test_discardSet : let t := after .discardSet (cmd opened 0x28 [])
    reply t = some (.ok, [3]) ∧ t.scu.state = .empty ∧ t.table .staged = Table.empty := by decide +kernel

/-- R61, R68: AT_BOUNDARY with no transaction in flight rotates the roles at once. -/
theorem test_commit_at_once :
    let t := after .commit (cmd (held .verified .ok) 0x30 [0, 0, 0, 0, 0, 0, 0, 0])
    reply t = some (.ok, [4, 0, 1]) ∧ t.roles = { active := .b, staged := .c, retained := .a } := by
  decide +kernel

/-- R60: a generation not above the active one is refused. -/
theorem test_commit_refuses_low_generation :
    let s := { held .verified .ok with tables := { (held .verified .ok).tables with a := { three with generation := 4 } } }
    reply (after .commit (cmd s 0x30 [0, 0, 0, 0, 0, 0, 0, 0])) = some (.generationLow, []) := by
  decide +kernel

/-- R67: a bad line fails the commit at its effect point. -/
theorem test_effectPoint_finds_bad_line :
    let t := after .effectPoint { pendingCommit atBoundary .service with store := badStore 1 }
    t.scu.state = .failed ∧ t.roles.active = .a ∧ t.events.sources[EventSource.commitResult.index].detail = 0x00040001 := by
  decide +kernel

/-- R65: at 1000 steps the gate timer of one millisecond expires, with COMMIT_RESULT and code TIMEOUT. -/
theorem test_gateTimer_expires :
    let s := { pendingCommit gated .service with timeBase := 1000 }
    (after .gateTimerExpiry s).scu.state = .verified ∧
      (after .gateTimerExpiry { s with timeBase := 999 }).scu.state = .commitPending := by
  decide +kernel

/-- R66: CANCEL_COMMIT returns the set to VERIFIED. -/
theorem test_cancelCommit : let t := after .cancelCommit (cmd (pendingCommit gated .service) 0x31 [])
    reply t = some (.ok, [4, 0]) ∧ t.scu.state = .verified := by decide +kernel

/-- R74: REVERT swaps ACTIVE and RETAINED. -/
theorem test_revert_swaps : let t := after .revert (cmd patched 0x32 [])
    reply t = some (.ok, [0, 0, 3, 0]) ∧ t.roles = { active := .c, staged := .b, retained := .a } := by
  decide +kernel

/-- R76: CLEAR_RETAINED counts entries and lines. -/
theorem test_clearRetained :
    let s := { patched with roles := { active := .b, staged := .c, retained := .a } }
    reply (after .clearRetained (cmd s 0x33 [])) = some (.ok, [3, 1]) := by
  decide +kernel

/-- R82: the last offset an image may start at, and the next line. -/
theorem test_loadImage_offset_limit :
    reply (after .loadImage (cmd State.reset 0x40 [1, 0xE0, 0xF4, 0xFF, 0x03])) = some (.ok, [1]) ∧
    reply (after .loadImage (cmd State.reset 0x40 [1, 0x00, 0xF5, 0xFF, 0x03])) = some (.badArgument, []) := by
  decide +kernel

/-- R95: RELEASE_HOST without a hold. -/
theorem test_releaseHost_not_held : reply (after .releaseHost (cmd State.reset 0x41 [])) = some (.notHeld, []) := by
  decide +kernel

/-- R97, R105: a base that is no multiple of the length is refused. -/
theorem test_setRegion_base_aligned :
    reply (after .setRegion (cmd State.reset 0x50 [2, 1, 1, 1, 0, 3, 0, 0, 0x00, 0x20, 0, 0, 0, 0x10, 0, 0])) =
      some (.ok, [2]) ∧
    reply (after .setRegion (cmd State.reset 0x50 [2, 1, 1, 1, 0, 3, 0, 0, 0x00, 0x10, 0, 0, 0, 0x10, 0, 0])) =
      some (.badArgument, []) := by
  decide +kernel

/-- R100, R107: host address 0x1004 lies in region 0 at downstream 0x1_1004. -/
theorem test_readRegion_address_form :
    reply (after .readRegion (cmd patched 0x51 [0x04, 0x10, 0, 0])) =
      some (.ok, [0, 1, 0, 1, 0, 1, 0, 0, 0x04, 0x10, 0x01, 0]) := by
  decide +kernel

/-- R133: the set form answers the old and the new value. -/
theorem test_setMemoryTiming : reply (after .setMemoryTiming (cmd State.reset 0x58 [1, 9, 0])) = some (.ok, [1, 50, 9]) := by
  decide +kernel

/-- R36: a scrub of a line that is not on the bad-line list. -/
theorem test_scrubLine_not_listed : reply (after (.scrubLine []) (cmd State.reset 0x15 [0, 0])) = some (.notFound, []) := by
  decide +kernel

/-- R37: the summary after reset. -/
theorem test_queryStore_summary :
    reply (after .queryStore (cmd State.reset 0x14 [])) =
      some (.ok, [0, 1, 0, 0, 0, 0, 0, 1, 0, 0] ++ List.replicate 16 0) := by
  decide +kernel

/-- R20, R179: the readout of the WATCH entry. -/
theorem test_readEntry_watch :
    reply (after (.readEntry []) (cmd patched 0x11 [0, 1])) =
      some (.ok, [0, 1, 3, 0, 0, 0, 0, 0, 0x01, 0x01, 0, 3, 0, 1, 16, 0, 0x34, 0x12, 0, 0, 1, 0, 2, 0]) := by
  decide +kernel

/-- R145: capture starts in CAPTURING with an empty buffer. -/
theorem test_traceStart : reply (after .traceStart (cmd State.reset 0x61 [])) = some (.ok, [1, 0, 0]) := by
  decide +kernel

/-- R155: TAKE_EVENT takes the raised SOFTWARE event once it is enabled. -/
theorem test_takeEvent :
    let s := after .raiseEvent (cmd (after .eventConfig (cmd State.reset 0x70 [12, 1, 2])) 0x74 [1, 2, 3, 4])
    s.alertLow = true ∧ reply (after .takeEvent (cmd s 0x71 [])) = some (.ok, [12, 2, 1, 0, 1, 2, 3, 4]) := by
  decide +kernel

/-- R165, R177: an OPEN_SET frame is accepted at its last CRC byte, and refused with a wrong one. -/
theorem test_requestFrame_decided :
    let f := (QueuedCommand.frame ⟨9, 0x20, []⟩)
    (after (.requestFrame f) (period State.reset [])).svp.commands = [⟨9, 0x20, []⟩] ∧
    (after (.requestFrame (f.set 5 0)) (period State.reset [])).svp.lastVerdict = .refusedCrc := by
  decide +kernel

/-- R165, R167: with eight items held, a frame of 6 bytes is decided before the response ends at byte 11 and is refused,
one of 12 bytes after it and is accepted; both responses leave. -/
theorem test_requestFrame_before_and_after_response :
    let s := period { State.reset with svp := { ServicePort.reset with
      responses := List.replicate 8 ⟨7, .ok, [1]⟩ } } []
    let t := after (.requestFrame (QueuedCommand.frame ⟨9, 0x20, []⟩ ++ List.replicate 6 0)) s
    let u := after (.requestFrame (QueuedCommand.frame ⟨9, 0x01, List.replicate 6 0⟩)) s
    t.svp.lastVerdict = .refusedFull ∧ t.svp.responses.length = 7 ∧
    u.svp.lastVerdict = .accepted ∧ u.svp.responses.length = 7 := by
  decide +kernel

/-- R166: the flag that the header carried is cleared at byte 4, whichever row carries the byte. -/
theorem test_statusHeader_clears_reset_seen :
    (period State.reset []).svp.resetSeen = true ∧
    (after (.statusHeaderSent [0, 0, 0]) (period State.reset [])).svp.resetSeen = true ∧
    (after (.statusHeaderSent [0, 0, 0, 0]) (period State.reset [])).svp.resetSeen = false ∧
    (after (.requestFrame (QueuedCommand.frame ⟨9, 0x20, []⟩)) (period State.reset [])).svp.resetSeen = false := by
  decide +kernel

/-- R164: a first byte that is neither 0x00 nor 0xA5. -/
theorem test_malformedRequest :
    let t := after (.malformedRequest [0xA4]) (period State.reset [])
    t.svp.lastVerdict = .refusedFormat ∧ t.events.sources[EventSource.frameError.index].detail = 3 := by
  decide +kernel

/-- R168: the highest code that no command has. -/
theorem test_unknownCommand : reply (after .unknownCommand (cmd State.reset 0xFF [])) = some (.unknownCommand, []) := by
  decide +kernel

/-- R172: the longest payload. -/
theorem test_echo : reply (after .echo (cmd State.reset 0x01 (List.replicate 56 0xC3))) =
    some (.ok, List.replicate 56 0xC3) := by decide +kernel

/-! ### States that meet the hypotheses of the statements -/

theorem entries_empty : Table.empty.entries = [] := by decide +kernel
theorem refs_empty (l : LineIdx) : Table.empty.refs l = 0 := by rw [Table.refs, entries_empty]; rfl
theorem reset_line (l : LineIdx) : LineStore.reset.lines[l] = StoreLine.reset := by simp [LineStore.reset]

theorem entries_three : three.entries = [(0, sub), (1, watch), (2, redirect)] := by decide +kernel
theorem entries_plain : plain.entries = [(0, sub), (1, { watch with origin := none }), (2, redirect)] := by decide +kernel

/-- The lines other than line 0. -/
def others : List LineIdx := (List.finRange 255).map Fin.succ

theorem mem_others (l : LineIdx) : l ∈ others ↔ l ≠ 0 := by simp [others, Fin.exists_succ_eq]

theorem nodup_others : others.Nodup := (List.nodup_finRange 255).map (Fin.succ_injective 255)

/-- The accounting of a store in which only line 0 is used, and the others are all unmarked or all marked. -/
theorem accounted_used (s : State) (n : Nat) (hn : n ≠ 0) (y : StoreLine) (hy : y.refCount = 0)
    (h0 : s.store.lines[(0 : LineIdx)].refCount = n) (hl : ∀ l : LineIdx, l ≠ 0 → s.store.lines[l] = y)
    (hf : s.store.freeList = if y.bad then [] else others) (hb : s.store.badList = if y.bad then others else [])
    (hr : s.tables.refs 0 = n) (hx : s.tables.exclusive 0) (h : ∀ l : LineIdx, l ≠ 0 → s.tables.refs l = 0) :
    s.accounted := by
  unfold State.accounted
  rw [hf, hb]
  refine ⟨fun l => ?_, fun l => ?_, ?_, ?_, fun l => ?_, fun l => ?_⟩
  · by_cases h1 : l = 0
    · subst h1; rw [h0, hr]
    · rw [hl l h1, h l h1, hy]
  · by_cases h1 : l = 0
    · subst h1; exact hx
    · have := h l h1
      simp only [Tables.refs] at this
      exact ⟨by omega, by omega, by omega⟩
  · split <;> simp [nodup_others]
  · split <;> simp [nodup_others]
  · by_cases h1 : l = 0
    · subst h1; rw [h0]; split <;> simp [mem_others, hn]
    · rw [hl l h1, hy]; cases hyb : y.bad <;> simp [mem_others, h1]
  · by_cases h1 : l = 0
    · subst h1; rw [h0]; split <;> simp [mem_others, hn]
    · rw [hl l h1, hy]; cases hyb : y.bad <;> simp [mem_others, h1]

theorem used_line (n : Nat) : (usedStore n).lines[(0 : LineIdx)] = usedLine n := by simp [usedStore, LineStore.setLine]

theorem used_other (n : Nat) (l : LineIdx) (hl : l ≠ 0) : (usedStore n).lines[l] = StoreLine.reset :=
  (LineStore.setLine_ne LineStore.reset 0 l (usedLine n) hl).trans (reset_line l)

theorem refs_three (l : LineIdx) : three.refs l = if l = 0 then 1 else 0 := by
  rw [Table.refs, entries_three]
  by_cases hl : l = 0
  · subst hl; decide
  · have : (some (0 : LineIdx) == some l) = false := by simpa using fun h => hl h.symm
    simp [sub, watch, redirect, Entry.storeLine, this, hl]

theorem refs_plain (l : LineIdx) : plain.refs l = if l = 0 then 1 else 0 := by
  rw [Table.refs, entries_plain]
  by_cases hl : l = 0
  · subst hl; decide
  · have : (some (0 : LineIdx) == some l) = false := by simpa using fun h => hl h.symm
    simp [sub, watch, redirect, Entry.storeLine, this, hl]

theorem accounted_reset : State.reset.accounted := by
  refine ⟨fun l => ?_, fun l => ?_, ?_, List.nodup_nil, fun l => ?_, fun l => ?_⟩
  · show LineStore.reset.lines[l].refCount = Table.empty.refs l + Table.empty.refs l + Table.empty.refs l
    rw [reset_line, refs_empty]; rfl
  · exact ⟨(refs_empty l).le.trans (by decide), (refs_empty l).le.trans (by decide), (refs_empty l).le.trans (by decide)⟩
  · simp only [State.reset, LineStore.reset, List.nodup_finRange]
  · have h := reset_line l
    simp only [State.reset]
    rw [h]
    simp [LineStore.reset, StoreLine.reset]
  · show l ∈ [] ↔ LineStore.reset.lines[l].refCount = 0 ∧ LineStore.reset.lines[l].bad = true
    rw [reset_line]; simp [StoreLine.reset]

theorem accounted_of_three (s : State) (hs : s.store = usedStore 1) (t : Table) (ht : ∀ l, t.refs l = three.refs l)
    (hb : s.tables = { a := t, b := Table.empty, c := Table.empty } ∨
      s.tables = { a := Table.empty, b := t, c := Table.empty }) : s.accounted := by
  have e : ∀ l, s.tables.refs l = if l = 0 then 1 else 0 := fun l => by
    rcases hb with h | h <;> rw [h] <;> simp [Tables.refs, refs_empty, ht, refs_three]
  refine accounted_used s 1 one_ne_zero StoreLine.reset rfl (by rw [hs, used_line]; rfl)
    (fun l hl => by rw [hs]; exact used_other 1 l hl) (by rw [hs]; rfl) (by rw [hs]; rfl) (by rw [e]; rfl) ?_
    (fun l hl => by rw [e, if_neg hl])
  have r := refs_three 0
  rcases hb with h | h <;> rw [h] <;> refine ⟨?_, ?_, ?_⟩ <;> simp [refs_empty, ht, r]

theorem accounted_opened : opened.accounted := accounted_of_three _ rfl three (fun _ => rfl) (.inr rfl)
theorem accounted_patched : patched.accounted :=
  accounted_of_three _ rfl { three with generation := 3 } (fun _ => rfl) (.inl rfl)
theorem accounted_held (st : StagedState) (res : VerifyResult) : (held st res).accounted :=
  accounted_of_three _ rfl { plain with result := res } (fun l => (refs_plain l).trans (refs_three l).symm) (.inr rfl)

theorem not_in (t : Table) (n : LineNumber) (h : t.entries.all (fun x => x.2.line != n) = true) (j : Slot) (e : Entry)
    (hj : t.slots[j] = some e) : e.line ≠ n := by
  have hm : (j, e) ∈ t.entries := List.mem_filterMap.mpr ⟨j, List.mem_finRange j, by simp [hj]⟩
  simpa using List.all_eq_true.mp h _ hm

theorem keyed_three : three.keyed := by
  unfold Table.keyed
  rw [entries_three]
  refine ⟨by decide, ?_⟩
  simp [sub, watch, redirect]

theorem keyed_plain : plain.keyed := by
  unfold Table.keyed
  rw [entries_plain]
  refine ⟨by decide, ?_⟩
  simp [sub, watch, redirect]

theorem keyed_empty : Table.empty.keyed := by
  unfold Table.keyed
  rw [entries_empty]
  simp

theorem good_lines (l : LineIdx) : (usedStore 1).lines[l].bad = false := by
  by_cases hl : l = 0
  · subst hl; simp [usedStore, LineStore.setLine, usedLine]
  · have h : (usedStore 1).lines[l] = LineStore.reset.lines[l] := LineStore.setLine_ne LineStore.reset 0 l (usedLine 1) hl
    rw [h, reset_line]; rfl

theorem names_no_bad (s : State) (r : Role) (hs : s.store = usedStore 1) : ¬ s.namesBadLine r := by
  rintro ⟨i, e, l, -, -, h⟩
  rw [hs, good_lines] at h
  cases h

theorem names_bad (s : State) (hs : s.store = badStore 1) (ht : (s.table .staged).slots[(0 : Slot)] = some sub) :
    s.namesBadLine .staged :=
  ⟨0, sub, 0, ht, rfl, by rw [hs]; simp [badStore, LineStore.setLine]⟩

theorem wf_held : (held .sealed .none).wf where
  controlled := by
    refine ⟨by decide, ?_, by decide +kernel, by decide +kernel, by decide +kernel⟩
    show (4 : Generation) ≠ 0 ∧ VerifyResult.none = .none
    decide
  keyed := ⟨keyed_empty, keyed_plain, keyed_empty⟩
  accounted := accounted_held _ _
  heldIdle := by decide +kernel
  txnFits := trivial
  portFits := by decide +kernel

theorem test_hyp_StepRunsFrontCommand : State.reset.pending = [] := rfl

theorem test_hyp_CommandsKeepQueueAndStraps :
    ∃ t, exec .timeBaseStep State.reset = .next t ∧ ∀ b k, Instr.timeBaseStep ≠ .pinResetEnd b k :=
  ⟨_, rfl, by simp⟩

theorem test_hyp_PinResetAndItsEnd : (after .pinReset State.reset).inReset = true := rfl

theorem test_hyp_ServiceResetAtBoundary :
    let s := after .resetPart (cmd State.reset 0x03 [])
    s.inReset = false ∧ s.inFlight = false ∧ s.serviceResetDue = true := by decide +kernel

theorem test_hyp_TimeBaseStepCounts :
    (let s := busy { pendingCommit gated .service with timeBase := 999 } .loader 49 false
     s.inReset = false ∧ (∀ pc ∈ s.scu.commit, pc.deadline ≠ some s.timeBase) ∧
       ∀ a ∈ s.port.access, a.timeout = 0 ∨ a.steps ≠ a.timeout.toNat) ∧
    (∃ t, exec .gateTimerExpiry { pendingCommit gated .service with timeBase := 1000 } = .next t) ∧
    ∃ t, exec .accessExpiry (busy State.reset .loader 50 false) = .next t :=
  ⟨by decide +kernel, ⟨_, rfl⟩, ⟨_, rfl⟩⟩

theorem test_hyp_RequestsAndEffectsWait :
    (State.reset.inReset = false ∧ State.reset.hbi.state = .idle) ∧
    (inFlight patched (read 0x802 false 0)).inFlight = true ∧
    (waiting State.reset (read 0 false 0)).hbi.state = .waiting (read 0 false 0) ∧
    (after (.pinResetEnd 3 0) (after .pinReset State.reset)).hbi.held = true ∧
    (pendingCommit atBoundary .service).commitDue = true ∧
    (after .resetPart (cmd State.reset 0x03 [])).svp.executing.isSome = true := by decide +kernel

theorem test_hyp_BeatsInWrapOrder : 8 ∈ [1, 2, 4, 8] ∧ 7 < 8 ∧ 1 ∈ [1, 2, 4, 8] ∧ 0 < 1 := by decide

theorem test_hyp_DecisionRecordFormed :
    (patched.decisionFor (read 0x800 false 0)).slot = some 0 ∧
    (patched.regions.classify (4 * 0x7FF)).kind = .patchable ∧ (patched.decisionFor (read 0x7FF false 0)).slot = none ∧
    (patched.regions.classify 0x10000).kind ≠ .patchable ∧ (write1 0 ⟨0, 15⟩).write = true ∧
    (read 0x800 false 3).write = false ∧ 7 < 2 ^ (read 0x800 false 3).len.toNat := by decide +kernel

/-- The background rule with another kind and write policy. -/
def withBackground (k : BackgroundKind) (p : WritePolicy) : State :=
  { State.reset with
    regions := { RegionTable.reset with background := { kind := k, wait := 15, policy := p, trace := false } } }

theorem test_hyp_BlockedAndRefusedEndAtFirstBeat :
    (let s := waiting (withBackground .blocked .forward) (read 0 false 0)
     s.inReset = false ∧ s.hbi.state = .waiting (read 0 false 0) ∧ s.hbi.held = false ∧ s.effectDue = false ∧
     (s.regions.classify 0).kind = .blocked) ∧
    (withBackground .pass .refuse).regions.classify 0 = (withBackground .pass .refuse).regions.classify 0xFFFFFFC ∧
    ((withBackground .pass .refuse).regions.classify 0).policy = .refuse := by decide +kernel

theorem test_hyp_ReadAsksForItsFirstWord :
    (let s := waiting patched (read 0x802 false 0)
     s.inReset = false ∧ s.hbi.held = false ∧ s.effectDue = false ∧
     (s.regions.classify (4 * 0x802)).kind ≠ .blocked ∧ s.port.access = none ∧
     (s.decisionFor (read 0x802 false 0)).plan = [.memory] ∧
     (s.decisionFor (read 0x813 false 0)).plan = [.target .ce1 7]) := by decide +kernel

theorem test_hyp_StoreBeatServedOrFallsBack :
    (let s := waiting patched (read 0x800 false 0)
     s.inReset = false ∧ s.hbi.held = false ∧ s.effectDue = false ∧
     (s.regions.classify (4 * 0x800)).kind ≠ .blocked ∧ (s.decisionFor (read 0x800 false 0)).plan = [.store 0] ∧
     (s.store.lines[(0 : LineIdx)].bad = false ∧ s.store.lines[(0 : LineIdx)].words[(0 : WordIdx)].agrees = true) ∧
     (s.store.upset [⟨0, 0, 5, false⟩]).lines[(0 : LineIdx)].words[(0 : WordIdx)].agrees = false ∧
     (badStore 1).lines[(0 : LineIdx)].bad = true ∧
     (read 0x800 false 3).write = false ∧
     (s.decisionFor (read 0x800 false 3)).plan = [0, 0].map BeatSource.store ++ List.replicate 6 .memory ∧
     (s.decisionFor (read 0x800 false 1)).plan = [0].map BeatSource.store ++ [.store 0] ∧
     (∀ j : Fin 2, s.store.lines[(0 : LineIdx)].words[(s.decisionFor (read 0x800 false 3)).idxAt (0 + j.val)].agrees =
       true)) := by decide +kernel

theorem test_hyp_WritesByPolicy :
    (let s := waiting State.reset (write1 0x3FFFFFF ⟨1, 8⟩)
     s.inReset = false ∧ s.hbi.held = false ∧ s.effectDue = false ∧ (write1 0x3FFFFFF ⟨1, 8⟩).wellFormed = true ∧
     (s.regions.classify 0xFFFFFFC).kind ≠ .blocked ∧ (s.regions.classify 0xFFFFFFC).policy = .forward) ∧
    (let w : HostRequest := { addr := 0, write := true, fetch := false, len := 1, writes := [⟨1, 0⟩, ⟨2, 1⟩] }
     w.wellFormed = true ∧ w.writes = [⟨1, 0⟩] ++ [⟨2, 1⟩] ∧ (∀ b ∈ [(⟨1, 0⟩ : WriteBeat)], b.enables = 0) ∧
       (1 : BitVec 4) ≠ 0) ∧
    ((withBackground .pass .discard).regions.classify 0xFFFFFFC).policy = .discard := by decide +kernel

theorem test_hyp_EndOfTransaction :
    (∀ before ∈ [[], [(EventSource.downstreamTimeout, (5 : Word))]],
      before = [] ∨ ∃ detail, before = [(EventSource.downstreamTimeout, detail)]) ∧
    patched.matchedEntry (patched.decisionFor (read 0x808 false 0)) = some watch ∧
    (patched.decisionFor (write1 0x808 ⟨0, 15⟩)).slot = some 1 ∧
    patched.matchedEntry (patched.decisionFor (write1 0x800 ⟨0, 15⟩)) = some sub ∧
    patched.matchedEntry (patched.decisionFor (read 0x7FF false 0)) = none ∧ patched.trace.state ≠ .armed :=
  ⟨fun b hb => by fin_cases hb; exacts [.inl rfl, .inr ⟨5, rfl⟩], by decide +kernel⟩

theorem test_hyp_OpenSetOpensEmptySet :
    ((cmd State.reset 0x20 []).offers 0x20 7 [] [] ∧
      (cmd State.reset 0x20 []).scu.state.recordFits ((cmd State.reset 0x20 []).table .staged)) ∧
    (cmd opened 0x20 []).scu.state.recordFits ((cmd opened 0x20 []).table .staged) ∧
    (cmd opened 0x20 []).scu.state ≠ .empty :=
  ⟨⟨⟨rfl, rfl, rfl⟩, rfl⟩, ⟨rfl, rfl, rfl⟩, by decide⟩

theorem test_hyp_CloneActiveCopiesAndShares :
    (cmd patched 0x21 []).offers 0x21 7 [] [] ∧ (cmd patched 0x21 []).scu.state = .empty ∧
    (cmd patched 0x21 []).table .staged = Table.empty := ⟨⟨rfl, rfl, rfl⟩, rfl, rfl⟩

/-- A record of one data word for word 7 of the last line, and a REDIRECT and a WATCH of that line. -/
def newSub : EntryRecord :=
  { line := 0x7FFFFF, body := .substitute 0x80 [0x12345678], origin := some 0xFFFF, report := true }
def newRedirect : EntryRecord := { line := 0x7FFFFF, body := .redirect .ce0 0x1FFFFF, origin := none, report := false }
def newWatch : EntryRecord := { line := 0x7FFFFF, body := .watch 0xFFFF .both, origin := none, report := false }

/-- The same records for a line that the set has. -/
def atLine (r : EntryRecord) (n : LineNumber) : EntryRecord := { r with line := n }

theorem test_hyp_AddEntryCreatesEntry :
    ∀ r ∈ [newSub, newRedirect, newWatch],
      (cmd opened 0x22 r.bytes).offers 0x22 7 r.bytes [] ∧ opened.scu.state = .opened ∧ r.wellFormed = true ∧
      (∀ (j : Slot) (e : Entry), (opened.table .staged).slots[j] = some e → e.line ≠ r.line) ∧
      (opened.table .staged).slots[(3 : Slot)] = none ∧ (∀ j : Slot, j < 3 → (opened.table .staged).slots[j] ≠ none) ∧
      ∃ ls, opened.store.freeList = 1 :: ls := by
  intro r hr
  refine ⟨⟨rfl, rfl, rfl⟩, rfl, ?_, fun j e h => ?_, by decide +kernel, by decide +kernel, _, rfl⟩
  · fin_cases hr <;> decide
  · have hl : r.line = 0x7FFFFF := by fin_cases hr <;> rfl
    rw [hl]
    exact not_in three 0x7FFFFF (by rw [entries_three]; decide) j e h

theorem record_bytes_ne_nil (r : EntryRecord) : [] ≠ r.bytes := by
  intro h
  have := congrArg List.length h
  simp [EntryRecord.bytes, FixedPart.bytes] at this

/-- A table with a REDIRECT of line 0x102 in every slot. -/
def full : Table := { Table.empty with slots := Vector.replicate 64 (some redirect) }

theorem test_hyp_AddAndModifyCheckInOrder :
    (opened.scu.state = .opened ∧ (∀ r : EntryRecord, r.wellFormed = true → [] ≠ r.bytes) ∧
      (cmd opened 0x23 []).offers 0x23 7 [] []) ∧
    ((atLine newSub 0x100).wellFormed = true ∧
      ∃ (j : Slot) (e : Entry), (opened.table .staged).slots[j] = some e ∧ e.line = (atLine newSub 0x100).line) ∧
    (∀ j : Slot, ∃ e : Entry, full.slots[j] = some e ∧ e.line ≠ newSub.line) ∧
    ∀ (j : Slot) (e : Entry), (opened.table .staged).slots[j] = some e → e.line ≠ newSub.line :=
  ⟨⟨rfl, fun r _ => record_bytes_ne_nil r, rfl, rfl, rfl⟩, ⟨by decide, 0, sub, by decide +kernel, rfl⟩,
    fun j => ⟨redirect, by simp [full], by decide⟩,
    not_in three 0x7FFFFF (by rw [entries_three]; decide)⟩

/-- Line 0 used by two tables. -/
def shared : State :=
  { opened with tables := { opened.tables with a := { three with generation := 3 } }, store := usedStore 2 }

/-- The same with every other line marked bad, so that no line is free. -/
def noFree (n : Nat) : LineStore :=
  { lines := Vector.ofFn fun l => if l = 0 then usedLine n else { StoreLine.reset with bad := true }
    freeList := [], badList := others, threshold := 0 }

theorem accounted_three_by (s : State) (ta tb : Table) (n : Nat) (hn : n ≠ 0) (y : StoreLine) (hy : y.refCount = 0)
    (h0 : s.store.lines[(0 : LineIdx)].refCount = n) (hl : ∀ l : LineIdx, l ≠ 0 → s.store.lines[l] = y)
    (hf : s.store.freeList = if y.bad then [] else others) (hb : s.store.badList = if y.bad then others else [])
    (hs : s.tables = { a := ta, b := tb, c := Table.empty }) (ha : ∀ l, ta.refs l = if l = 0 then n - 1 else 0)
    (hn2 : n ≤ 2) (htb : ∀ l, tb.refs l = three.refs l) : s.accounted := by
  have e : ∀ l, s.tables.refs l = if l = 0 then n else 0 := fun l => by
    rw [hs]
    simp only [Tables.refs, refs_empty, ha, htb, refs_three]
    split <;> omega
  refine accounted_used s n hn y hy h0 hl hf hb (by rw [e]; rfl) ?_ (fun l hl => by rw [e, if_neg hl])
  rw [hs]
  refine ⟨?_, ?_, ?_⟩ <;> simp [refs_empty, ha, htb, refs_three]
  omega

theorem accounted_shared : shared.accounted :=
  accounted_three_by shared { three with generation := 3 } three 2 two_ne_zero StoreLine.reset rfl
    (by show (usedStore 2).lines[(0 : LineIdx)].refCount = 2; rw [used_line]; rfl) (fun l hl => used_other 2 l hl) rfl rfl rfl
    (fun l => refs_three l) le_rfl (fun _ => rfl)

theorem accounted_noFree : State.accounted { shared with store := noFree 2 } :=
  accounted_three_by _ { three with generation := 3 } three 2 two_ne_zero { StoreLine.reset with bad := true } rfl
    (by simp [noFree, usedLine]) (fun l hl => by simp [noFree, hl]) rfl rfl rfl
    (fun l => refs_three l) le_rfl (fun _ => rfl)

theorem accounted_opened_noFree : State.accounted { opened with store := noFree 1 } :=
  accounted_three_by _ Table.empty three 1 one_ne_zero { StoreLine.reset with bad := true } rfl
    (by simp [noFree, usedLine]) (fun l hl => by simp [noFree, hl]) rfl rfl rfl
    (fun l => by rw [refs_empty]; split <;> rfl) (by omega) (fun _ => rfl)

/-- Old kind and new kind of each row of the table of R46. -/
theorem test_hyp_ModifyEntryReplacesEntry :
    (∀ r ∈ [newSub, newRedirect, newWatch], ∀ s ∈ [opened, shared, { shared with store := noFree 2 },
        { opened with store := noFree 1 }],
      (cmd s 0x23 (atLine r 0x100).bytes).offers 0x23 7 (atLine r 0x100).bytes [] ∧ s.scu.state = .opened ∧
      (atLine r 0x100).wellFormed = true ∧ (s.table .staged).keyed ∧ s.accounted ∧
      (s.table .staged).slots[(0 : Slot)] = some sub ∧ sub.line = (atLine r 0x100).line ∧
      (s.table .staged).slots[(1 : Slot)] = some watch ∧ watch.line = (atLine r 0x101).line) ∧
    sub.storeLine = some 0 ∧ watch.storeLine = none ∧ opened.store.lines[(0 : LineIdx)].refCount = 1 ∧
    2 ≤ shared.store.lines[(0 : LineIdx)].refCount ∧ (∃ ls, shared.store.freeList = 1 :: ls) ∧
    (noFree 2).freeList = [] := by
  refine ⟨fun r hr s hs => ?_, rfl, rfl, by decide +kernel, by decide +kernel, ⟨_, rfl⟩, rfl⟩
  have hw : (atLine r 0x100).wellFormed = true := by fin_cases hr <;> decide
  have ht : s.table .staged = three := by fin_cases hs <;> rfl
  refine ⟨⟨by fin_cases hs <;> rfl, by fin_cases hs <;> rfl, rfl⟩, by fin_cases hs <;> rfl, hw, ht ▸ keyed_three, ?_,
    by rw [ht]; decide +kernel, rfl, by rw [ht]; decide +kernel, rfl⟩
  fin_cases hs
  · exact accounted_opened
  · exact accounted_shared
  · exact accounted_noFree
  · exact accounted_opened_noFree

theorem test_hyp_RemoveEntryFreesSlot :
    (∀ p ∈ [[0x00, 0x00, 0x80], [0xFF, 0xFF, 0x7F], [0x00, 0x01, 0x00]],
      (cmd opened 0x24 p).offers 0x24 7 p [] ∧ p.length = 3) ∧
    opened.scu.state = .opened ∧ (opened.table .staged).keyed ∧ opened.accounted ∧
    0x7FFFFF < field [0x00, 0x00, 0x80] 0 3 ∧ field [0xFF, 0xFF, 0x7F] 0 3 ≤ 0x7FFFFF ∧
    (∀ (i : Slot) (e : Entry), (opened.table .staged).slots[i] = some e →
      e.line.toNat ≠ field [0xFF, 0xFF, 0x7F] 0 3) ∧
    (opened.table .staged).slots[(0 : Slot)] = some sub ∧ sub.line.toNat = field [0x00, 0x01, 0x00] 0 3 := by
  refine ⟨fun p hp => ⟨⟨rfl, rfl, rfl⟩, by fin_cases hp <;> rfl⟩, rfl, keyed_three, accounted_opened, by decide, by decide,
    fun i e h => ?_, by decide +kernel, by decide⟩
  have := not_in three 0x7FFFFF (by rw [entries_three]; decide) i e h
  intro hc
  exact this (BitVec.eq_of_toNat_eq hc)

theorem test_hyp_SealSetFreezesSet :
    (cmd opened 0x25 [0xFF, 0xFF, 1, 2, 3, 4]).offers 0x25 7 [0xFF, 0xFF, 1, 2, 3, 4] [] ∧
    opened.scu.state = .opened ∧ opened.scu.state.recordFits (opened.table .staged) ∧
    field [0xFF, 0xFF, 1, 2, 3, 4] 0 2 ≠ 0 ∧ field [0, 0, 1, 2, 3, 4] 0 2 = 0 :=
  ⟨⟨rfl, rfl, rfl⟩, rfl, ⟨rfl, rfl, rfl⟩, by decide,
    by decide⟩

theorem test_hyp_UnsealSetReopensSet :
    (∀ st ∈ [StagedState.sealed, .verified, .failed, .empty, .opened, .loading, .verifying, .commitPending],
      (cmd (held st .none) 0x26 []).offers 0x26 7 [] [] ∧ (held st .none).scu.state = st) :=
  fun _ _ => ⟨⟨rfl, rfl, rfl⟩, rfl⟩

theorem test_hyp_DiscardSetReleasesStagedTable :
    (cmd opened 0x28 []).offers 0x28 7 [] [] ∧ opened.scu.state ≠ .empty ∧
    opened.stagedAccepts .discardSet = some true ∧ opened.accounted ∧
    (cmd State.reset 0x28 []).offers 0x28 7 [] [] ∧ State.reset.scu.state = .empty :=
  ⟨⟨rfl, rfl, rfl⟩, by decide, by decide, accounted_opened, ⟨rfl, rfl, rfl⟩, rfl⟩

theorem test_hyp_AcceptanceTableOfStagedSet :
    commandCode .openSet = some 0x20 ∧ payloadFits 0x20 1 = false ∧ payloadFits 0x20 0 = true ∧
    State.reset.stagedAccepts .openSet = some true ∧ opened.stagedAccepts .openSet = some false ∧
    (cmd opened 0x20 []).offers 0x20 7 [] [] ∧ State.reset.commitDue = false := by
  refine ⟨rfl, by decide, by decide, by decide, by decide, ⟨rfl, rfl, rfl⟩, by decide⟩

theorem test_hyp_FrozenSetKeepsEntriesAndWords :
    ∃ t, (held .sealed .none).wf ∧ (held .sealed .none).scu.state.frozen = true ∧
      exec .timeBaseStep (held .sealed .none) = .next t ∧ t.scu.state.frozen = true ∧
      (t.table .staged).slots[(0 : Slot)] = some sub :=
  ⟨_, wf_held, rfl, rfl, rfl, by decide +kernel⟩

/-- The same entries in other slots. -/
def permuted : Table := ((Table.empty.setSlot 63 (some sub)).setSlot 1 (some redirect)).setSlot 2 (some watch)

theorem test_hyp_SetCrcIsOfSortedRecords :
    three.keyed ∧
    (three.entries.map fun x => (x.2.line, opened.entryBytes x.2)).Perm
      (permuted.entries.map fun x => (x.2.line, opened.entryBytes x.2)) ∧
    ∀ i : Slot, Table.empty.slots[i] = none := by
  refine ⟨keyed_three, by decide +kernel, fun i => by simp [Table.empty]⟩

theorem test_hyp_VerifySetWithoutOriginsDecides :
    (cmd (held .sealed .none) 0x27 []).offers 0x27 7 [] [] ∧ (held .failed .badLine).scu.state = .failed ∧
    (∀ x ∈ plain.entries, x.2.origin = none) ∧
    (∀ x ∈ plain.entries, ∀ mask l, x.2.body = .substitute mask l →
      (usedStore 1).lines[l].bad = false ∧
        ∀ i : WordIdx, mask.getLsbD i.val = true → (usedStore 1).lines[l].words[i].agrees = true) ∧
    plain.walk = [] ++ (0, sub) :: [(1, { watch with origin := none }), (2, redirect)] ∧
    sub.body = .substitute 3 0 ∧ (badStore 1).lines[(0 : LineIdx)].bad = true ∧
    (((usedStore 1).upset [⟨0, 1, 5, false⟩]).lines[(0 : LineIdx)].bad = false ∧ (3 : BitVec 8).getLsbD (1 : WordIdx).val = true ∧
      ((usedStore 1).upset [⟨0, 1, 5, false⟩]).lines[(0 : LineIdx)].words[(1 : WordIdx)].agrees = false) := by
  refine ⟨⟨rfl, rfl, rfl⟩, rfl, ?_, ?_, by decide +kernel, rfl, by decide +kernel, by decide +kernel⟩
  · rw [entries_plain]; simp [sub, watch, redirect]
  · rw [entries_plain]
    intro x hx mask l hl
    refine ⟨good_lines l, fun i _ => ?_⟩
    have : l = 0 := by
      fin_cases hx <;> simp_all [sub, watch, redirect]
    subst this
    rw [used_line]
    have h : ∀ i : WordIdx, (usedLine 1).words[i].agrees = true := by decide +kernel
    exact h i

/-- The payload of COMMIT for the last line, and the longest window. -/
def gatedBytes : List Byte := [1, 0xFF, 0xFF, 0x7F, 1, 0, 1, 0]

theorem test_hyp_CommitDecides :
    (∀ p ∈ [List.replicate 8 0, gatedBytes, [2, 0, 0, 0, 0, 0, 0, 0], [1, 0xFF, 0xFF, 0x7F, 2, 0, 1, 0]],
      ∀ st ∈ [StagedState.verified, .commitPending, .empty],
        (cmd (held st .ok) 0x30 p).offers 0x30 7 p [] ∧ p.length = 8 ∧ (held st .ok).scu.state = st) ∧
    (byteAt [2, 0, 0, 0, 0, 0, 0, 0] 0 ≠ 0 ∧ byteAt [2, 0, 0, 0, 0, 0, 0, 0] 0 ≠ 1) ∧
    0x800000 < field [1, 0xFF, 0xFF, 0x7F, 2, 0, 1, 0] 1 3 + field [1, 0xFF, 0xFF, 0x7F, 2, 0, 1, 0] 4 2 ∧
    (byteAt gatedBytes 0 = 1 ∧ 1 ≤ field gatedBytes 4 2 ∧ field gatedBytes 4 2 ≤ 2048 ∧
      field gatedBytes 1 3 + field gatedBytes 4 2 ≤ 0x800000 ∧
      gated = { mode := .gated, gateBase := BitVec.ofNat 23 (field gatedBytes 1 3), gateLength := field gatedBytes 4 2,
                timeout := BitVec.ofNat 16 (field gatedBytes 6 2) }) ∧
    ((held .verified .ok).table .active).generation < ((held .verified .ok).table .staged).generation ∧
    (held .verified .ok).hbi.held = false ∧ (held .verified .ok).inFlight = false ∧
    ¬ (held .verified .ok).namesBadLine .staged ∧ (held .verified .ok).roles.distinct ∧ (held .verified .ok).accounted ∧
    State.namesBadLine { held .verified .ok with store := badStore 1 } .staged := by
  refine ⟨fun p hp st _ => ⟨⟨rfl, rfl, rfl⟩, by fin_cases hp <;> rfl, rfl⟩, by decide, by decide, by decide, by decide, rfl,
    rfl, names_no_bad _ _ rfl, by decide, accounted_held _ _, names_bad _ rfl (by decide +kernel)⟩

theorem test_hyp_EffectPointRotatesOrFails :
    ∀ who ∈ [CommitRequester.service, .startUp], ∀ s ∈ [pendingCommit atBoundary who],
      s.inReset = false ∧ s.scu.commit = some ⟨atBoundary, none, who, false⟩ ∧ atBoundary.mode = .atBoundary ∧
      s.inFlight = false ∧ ¬ s.namesBadLine .staged ∧ s.roles.distinct ∧ s.accounted ∧
      State.namesBadLine { s with store := badStore 1 } .staged := by
  intro who _ s hs
  obtain rfl : s = pendingCommit atBoundary who := by simpa using hs
  refine ⟨rfl, rfl, rfl, rfl, names_no_bad _ _ rfl, ?_, accounted_held .commitPending .ok, names_bad _ rfl ?_⟩
  · show State.reset.roles.distinct
    decide
  · show plain.slots[(0 : Slot)] = some sub
    decide +kernel

theorem test_hyp_GateOpensForFetchInWindow :
    let s := pendingCommit gated .service
    let d := s.decisionFor (read 0x3FFFFFF true 0)
    s.scu.commit = some ⟨gated, some 1000, .service, false⟩ ∧ gated.mode = .gated ∧ d.write = false ∧ d.fetch = true ∧
    gated.gateBase.toNat ≤ d.addr.toNat / 8 ∧ d.addr.toNat / 8 < gated.gateBase.toNat + gated.gateLength ∧
    (some 1000 : Option Word) ≠ some s.timeBase ∧ State.reset.scu.commit = none := by decide +kernel

theorem test_hyp_PendingCommitWithdrawn :
    (∀ who ∈ [CommitRequester.service, .startUp],
      (pendingCommit gated who).inReset = false ∧
      (pendingCommit gated who).scu.commit = 
        some ⟨gated, some (0 + BitVec.ofNat 32 (1000 * gated.timeout.toNat)), who, false⟩ ∧
      (cmd (pendingCommit gated who) 0x31 []).offers 0x31 7 [] [] ∧ (pendingCommit gated who).commitDue = false ∧
      (pendingCommit gated who).scu.state = .commitPending) ∧
    ((999 : Word) - 0).toNat ≠ 1000 * gated.timeout.toNat ∧ ((1000 : Word) - 0).toNat = 1000 * gated.timeout.toNat ∧
    State.reset.scu.state ≠ .commitPending := by
  decide +kernel

/-- A REVERT that waits for the end of a transaction, with a start-up commit deferred behind it. -/
def revertWaiting (a : Option CommitArgs) : State :=
  { held .verified .ok with
    scu := { Scu.reset with state := .verified, deferred := a }
    loader := { Loader.reset with state := .commit, kind := .startUp }
    svp := { ServicePort.reset with executing := some { tag := 7, what := .revert } } }

theorem test_hyp_RevertAndClearRetained :
    ((∀ s ∈ [patched, inFlight patched (read 0x802 false 0), held .commitPending .ok, held .loading .none],
        (cmd s 0x32 []).offers 0x32 7 [] []) ∧
      patched.scu.state ≠ .commitPending ∧ patched.scu.state ≠ .loading ∧ patched.inFlight = false ∧
      (inFlight patched (read 0x802 false 0)).inFlight = true ∧
      (inFlight patched (read 0x802 false 0)).hbi.held = false ∧ (held .loading .none).scu.state = .loading) ∧
    (∀ a ∈ [none, some gated, some atBoundary],
      (revertWaiting a).inReset = false ∧ (revertWaiting a).scu.commit = none ∧ (revertWaiting a).svp.executing = some { tag := 7, what := .revert } ∧
      (revertWaiting a).inFlight = false ∧ (revertWaiting a).scu.deferred = a ∧ gated.mode = .gated ∧
      (revertWaiting a).hbi.held = false ∧ atBoundary.mode = .atBoundary ∧ (revertWaiting a).scu.state = .verified ∧
      (revertWaiting a).roles.distinct ∧ ¬ (revertWaiting a).namesBadLine .retained ∧
      ((revertWaiting a).table .retained).generation < ((revertWaiting a).table .staged).generation) ∧
    (cmd patched 0x33 []).offers 0x33 7 [] [] ∧ patched.accounted := by
  refine ⟨⟨fun s hs => ?_, by decide, by decide, rfl, rfl, rfl, rfl⟩, fun a ha => ?_, ⟨rfl, rfl, rfl⟩, accounted_patched⟩
  · fin_cases hs <;> exact ⟨rfl, rfl, rfl⟩
  · refine ⟨rfl, rfl, rfl, rfl, rfl, rfl, rfl, rfl, rfl, ?_, names_no_bad _ _ rfl, ?_⟩
    · show State.reset.roles.distinct
      decide
    · show (0 : Generation) < 4
      decide

theorem test_hyp_LoadImageAndReleaseHost :
    (∀ p ∈ [[0, 0xE0, 0xF4, 0xFF, 0x03], [1, 0x00, 0xF5, 0xFF, 0x03], [0, 16, 0, 0, 0], [2, 0, 0, 0, 0]],
      (cmd State.reset 0x40 p).offers 0x40 7 p [] ∧ p.length = 5) ∧
    State.reset.scu.state = .empty ∧ opened.scu.state ≠ .empty ∧
    byteAt [0, 0xE0, 0xF4, 0xFF, 0x03] 0 = ChipEnable.ce0.code ∧ field [0, 0xE0, 0xF4, 0xFF, 0x03] 1 4 = 0x3FFF4E0 ∧
    field [0, 0xE0, 0xF4, 0xFF, 0x03] 1 4 % 32 = 0 ∧ 0x3FFF4E0 < field [1, 0x00, 0xF5, 0xFF, 0x03] 1 4 ∧
    field [0, 16, 0, 0, 0] 1 4 % 32 ≠ 0 ∧
    (cmd State.reset 0x41 []).offers 0x41 7 [] [] ∧ State.reset.hbi.held = false ∧
    (after (.pinResetEnd 3 0) (after .pinReset State.reset)).hbi.held = true := by
  decide +kernel

theorem test_hyp_SetRegionWritesRecordWhole :
    patchable.fits ∧ (cmd State.reset 0x50 (patchable.bytes 7)).offers 0x50 7 (patchable.bytes 7) [] ∧
    (cmd State.reset 0x51 [7]).offers 0x51 7 [BitVec.ofNat 8 (7 : Fin 8).val] [] ∧
    (cmd State.reset 0x50 (List.replicate 16 1)).offers 0x50 7 (List.replicate 16 1) [] ∧
    ∀ (n : Fin 8) (r : RegionRecord), r.fits → List.replicate 16 1 ≠ r.bytes n.val := by
  refine ⟨by decide, ⟨rfl, rfl, rfl⟩, ⟨rfl, rfl, rfl⟩, ⟨rfl, rfl, rfl⟩, fun n r _ h => ?_⟩
  have h7 := congrArg (fun l => byteAt l 7) h
  simp [byteAt, RegionRecord.bytes] at h7

theorem test_hyp_SetBackgroundAndTiming :
    (cmd State.reset 0x52 [2, 15, 1, 1]).offers 0x52 7 [2, 15, 1, 1] [] ∧
    ([2, 15, 1, 1] : List Byte) =
      [BackgroundKind.blocked.toRegion.code, (15 : BitVec 4).setWidth 8, WritePolicy.discard.code, flagByte true] ∧
    (byteAt [1, 15, 1, 1] 0 ≠ 0 ∧ byteAt [1, 15, 1, 1] 0 ≠ 2) ∧ 15 < (byteAt [2, 16, 1, 1] 1).toNat ∧
    (∀ p ∈ [[0], [1], [2], [0, 255, 0], [1, 255, 0], [0, 0, 1]], (cmd State.reset 0x58 p).offers 0x58 7 p []) ∧
    1 < (byteAt [2] 0).toNat ∧ 255 < field [0, 0, 1] 1 2 := by decide +kernel

theorem test_hyp_ClassificationOfAnAddress :
    (patched.regions.records[(0 : Fin 8)].contains 0xFFFF = true ∧
      ∀ j : Fin 8, j < 0 → patched.regions.records[j].contains 0xFFFF = false) ∧
    (∀ i : Fin 8, patched.regions.records[i].contains 0x10000 = false) ∧
    (∀ i : Fin 8, patched.regions.records[i].fits) ∧ (patched.regions.classify 0xFFFF).kind ≠ .blocked ∧
    (∀ p ∈ [[8], [9], [0xFC, 0xFF, 0xFF, 0x0F], [0, 0, 0, 0x10]], (cmd patched 0x51 p).offers 0x51 7 p []) ∧
    8 < (byteAt [9] 0).toNat ∧ field [0xFC, 0xFF, 0xFF, 0x0F] 0 4 ≤ 0xFFFFFFF ∧ 0xFFFFFFF < field [0, 0, 0, 0x10] 0 4 := by
  decide +kernel

theorem test_hyp_PortGrantsByPrecedence :
    State.reset.port.access = none ∧ (busy State.reset .host 0 false).port.access.isSome = true ∧
    let r := readRequest .ce0 0 15
    let s := busy State.reset .host 0 true
    s.inReset = false ∧ (s.port.access.any fun a => a.givenUp) = true ∧
    (s.port.host = none ∧ s.port.loader = none ∧ s.port.verifier = none) ∧
    (s.port.request 0 .host r).host = some r ∧
    ((s.port.request 0 .loader r).host = none ∧ (s.port.request 0 .loader r).loader = some r) ∧
    ((s.port.request 0 .verifier r).loader = none ∧ (s.port.request 0 .verifier r).verifier = some r) := by
  decide +kernel

/-- A transaction in flight with its beats so far. -/
def midway (s : State) (r : HostRequest) (done : Nat) : State :=
  { busy s .host 0 false with
    hbi := { s.hbi with
      state := .inFlight { dec := s.decisionFor r, done := done, fellBack := false, writes := r.writes } } }

/-- A write of two beats. -/
def write2 : HostRequest := { addr := 0, write := true, fetch := false, len := 1, writes := [⟨1, 15⟩, ⟨2, 1⟩] }

theorem test_hyp_HostAccessTransfersItsBeat :
    let d := State.reset.decisionFor (read 0 false 3)
    let w := State.reset.decisionFor write2
    (midway State.reset (read 0 false 3) 7).port.access.map (fun a => (a.who, a.givenUp)) = some (.host, false) ∧
    (midway State.reset (read 0 false 3) 7).hbi.state =
      .inFlight { dec := d, done := 7, fellBack := false, writes := [] } ∧
    7 < beatCount d.len ∧ d.write = false ∧ 7 + 1 = beatCount d.len ∧ d.plan.length = beatCount d.len ∧
    0 + 1 < beatCount d.len ∧ d.plan[0 + 1]? = some .memory ∧
    w.write = true ∧ 0 + 1 < beatCount w.len ∧ w.region.policy = .forward ∧ write2.writes = [⟨1, 15⟩, ⟨2, 1⟩] ∧
    (1 : BitVec 4) ≠ 0 ∧ 0 + write2.writes.length = beatCount w.len ∧
    ((patched.decisionFor (read 0x802 false 3)).plan.drop (5 + 1) = [0, 0].map BeatSource.store ++ [] ∧
      (patched.decisionFor (read 0x802 false 3)).plan.drop (0 + 1) = [].map BeatSource.store ++
        (List.replicate 5 .memory ++ [.store 0, .store 0]) ∧
      ∀ j : Fin 2, patched.store.lines[(0 : LineIdx)].words[(patched.decisionFor (read 0x802 false 3)).idxAt (6 + j.val)].agrees =
        true) ∧
    write2.writes.tail = [] ++ [⟨2, 1⟩] := by decide +kernel

/-- A load of a kind in a state, waiting for a word. -/
def loading (kind : LoadKind) (st : LoaderState) (header record : List Byte) (remaining : Nat) : State :=
  { busy opened .loader 50 false with
    scu := { Scu.reset with state := .loading }
    loader := { Loader.reset with
      state := st, kind := kind, header := header, record := record, remaining := remaining } }

theorem accounted_loading (kind : LoadKind) (st : LoaderState) (header record : List Byte) (remaining : Nat) :
    (loading kind st header record remaining).accounted :=
  accounted_of_three _ rfl three (fun _ => rfl) (.inr rfl)

/-- A verification that waits for an origin word of the WATCH entry, the last of its set. -/
def verifyingFor (who : VerifyStarter) (origin : List Word) (check : BitVec 16) : State :=
  { busy State.reset .verifier 50 false with
    tables := { a := Table.empty, c := Table.empty
                b := { Table.empty.setSlot 0 (some { watch with origin := some check }) with generation := 4 } }
    scu := { Scu.reset with
      state := .verifying
      verifier := some { starter := who, passed := 0, crc := crc32Start, origin := origin } } }

/-- The same started by VERIFY_SET. -/
def verifying (origin : List Word) (check : BitVec 16) : State := verifyingFor .verifySet origin check

theorem test_hyp_AccessExpiryFailsTheAccess :
    (∀ g ∈ [false, true],
      (busy State.reset .host 50 g).inReset = false ∧ (busy State.reset .host 50 g).port.access =
        some { who := .host, givenUp := g, req := readRequest .ce1 0x3FFFFFC 15, timeout := 50, start := 0, steps := 50 }) ∧
    (50 : Byte) ≠ 0 ∧ 50 = (50 : Byte).toNat ∧ 49 ≠ (50 : Byte).toNat ∧
    (midway State.reset (read 0 false 3) 7).inFlight = true ∧
    (∀ kind ∈ [LoadKind.command, .startUp], ∀ st ∈ [LoaderState.header, .body],
      (loading kind st [] [] 1).loader.state = st ∧ (loading kind st [] [] 1).loader.kind = kind ∧
      (loading kind st [] [] 1).accounted) ∧
    ∀ who ∈ [VerifyStarter.verifySet, .commandLoad, .startUpLoad],
      (verifyingFor who [] 0).scu.verifier = some ⟨who, 0, crc32Start, []⟩ :=
  ⟨fun _ _ => ⟨rfl, rfl⟩, by decide, by decide, by decide, rfl,
    fun _ _ _ _ => ⟨rfl, rfl, accounted_loading _ _ _ _ _⟩, fun _ _ => rfl⟩

/-- A header that passes, with a gate, for so many records (R83). -/
def goodHeader (n : Byte) : List Byte :=
  let h := [0x5A, 0x50, 0x53, 0x31, 1, 1, n, 0, 5, 0, 4, 0, 0x80, 1, 0, 0, 200, 0, 0, 0, 1, 2, 3, 4, 56, 0, 0, 0, 0, 0]
  h ++ leBytes 2 (crc16 h).toNat

/-- The word that MD carries for four bytes at rising addresses (log 28). -/
def mdOf (bs : List Byte) : Word := BitVec.ofNat 32 (leNat bs)

theorem no_record_of_kind_0 (r : EntryRecord) : r.bytes.take 8 ≠ List.replicate 8 0 := by
  intro h
  have h3 := congrArg (fun l => byteAt l 3) h
  cases hb : r.body <;>
    simp [EntryRecord.bytes, EntryRecord.fixed, FixedPart.bytes, leBytes, byteAt, hb, EntryKind.code] at h3

/-- A WATCH record whose direction byte is 0 is no record. -/
theorem no_watch_of_direction_0 (r : EntryRecord) : r.bytes ≠ newWatch.bytes.set 10 0 := by
  intro h
  have e : newWatch.bytes.set 10 0 = [0xFF, 0xFF, 0x7F, 3, 0, 0, 12, 0, 0xFF, 0xFF, 0, 0] := by decide +kernel
  rw [e] at h
  have h3 := congrArg (fun l => byteAt l 3) h
  have h5 := congrArg (fun l => byteAt l 5) h
  have h10 := congrArg (fun l => byteAt l 10) h
  cases hb : r.body with
  | substitute m d => simp [EntryRecord.bytes, EntryRecord.fixed, FixedPart.bytes, leBytes, byteAt, hb, EntryKind.code] at h3
  | redirect c d => simp [EntryRecord.bytes, EntryRecord.fixed, FixedPart.bytes, leBytes, byteAt, hb, EntryKind.code] at h3
  | watch th dir =>
    cases ho : r.origin with
    | none =>
      cases dir <;>
        simp [EntryRecord.bytes, EntryRecord.fixed, FixedPart.bytes, RecordBody.bytes, leBytes, byteAt, hb, ho,
          WatchDir.code] at h10
    | some o =>
      cases hr : r.report <;>
        simp [EntryRecord.bytes, EntryRecord.fixed, FixedPart.bytes, leBytes, byteAt, hb, ho, hr, flagBits, flagByte] at h5

theorem test_hyp_LoaderTakesItsWords :
    (∀ kind ∈ [LoadKind.command, .startUp], ∀ st ∈ [LoaderState.header, .body], ∀ h p n,
      (loading kind st h p n).inReset = false ∧
      (loading kind st h p n).port.access.map (fun a => (a.who, a.givenUp)) = some (.loader, false) ∧
      (loading kind st h p n).loader.state = st ∧ (loading kind st h p n).loader.header = h ∧
      (loading kind st h p n).loader.record = p ∧ (loading kind st h p n).loader.remaining = n ∧
      (loading kind st h p n).accounted) ∧
    ((List.replicate 24 (0 : Byte)).length + 4 < 32 ∧ (List.replicate 28 (0 : Byte)).length = 28 ∧
      ¬ headerGood (List.replicate 28 0 ++ mdBytes 0)) ∧
    (∀ n ∈ [(0 : Byte), 1, 64], headerGood (goodHeader n) ∧ byteAt (goodHeader n) 6 = n ∧
      goodHeader n = (goodHeader n).take 28 ++ mdBytes (mdOf ((goodHeader n).drop 28)) ∧
      ((goodHeader n).take 28).length = 28) ∧
    (([] : List Byte) ++ mdBytes 0).length < 8 ∧
    (newSub.wellFormed = true ∧ newSub.bytes.take 8 = (newSub.bytes.take 12).take 8 ∧
      (newSub.bytes.take 12).length < newSub.bytes.length ∧
      newSub.bytes.take 12 = newSub.bytes.take 8 ++ mdBytes (mdOf ((newSub.bytes.drop 8).take 4))) ∧
    ((List.replicate 4 (0 : Byte) ++ mdBytes 0).length = 8 ∧
      ∀ r : EntryRecord, r.wellFormed = true → r.bytes.take 8 ≠ List.replicate 4 0 ++ mdBytes 0) ∧
    (newWatch.wellFormed = true ∧ newWatch.bytes.take 8 = (newWatch.bytes.set 10 0).take 8 ∧
      (newWatch.bytes.set 10 0).length = newWatch.bytes.length ∧
      newWatch.bytes.set 10 0 = newWatch.bytes.take 8 ++ mdBytes 0x0000FFFF ∧
      ∀ r : EntryRecord, r.wellFormed = true → r.bytes ≠ newWatch.bytes.set 10 0) ∧
    (∀ r ∈ [newSub, newRedirect, newWatch, atLine newSub 0x100], r.wellFormed = true ∧
      r.bytes.take (r.bytes.length - 4) ++ mdBytes (mdOf (r.bytes.drop (r.bytes.length - 4))) = r.bytes) ∧
    ((opened.table .staged).slots[(0 : Slot)] = some sub ∧ sub.line = (atLine newSub 0x100).line) ∧
    (∀ (j : Slot) (e : Entry), (opened.table .staged).slots[j] = some e → e.line ≠ 0x7FFFFF) ∧
    (opened.table .staged).slots[(3 : Slot)] = none ∧ (∀ j : Slot, j < 3 → (opened.table .staged).slots[j] ≠ none) ∧
    newSub.body = .substitute 0x80 [0x12345678] ∧ (∃ ls, opened.store.freeList = 1 :: ls) ∧
    ((noFree 1).freeList = [] ∧
      State.accounted { loading .command .body (goodHeader 1) newSub.bytes 1 with store := noFree 1 }) ∧
    (∀ mask data, newRedirect.body ≠ .substitute mask data) ∧
    28 ≠ field (goodHeader 1) 24 2 ∧ 40 + 16 = field (goodHeader 1) 24 2 ∧
    (opened.store.upset [⟨1, 0, 5, false⟩]).freeList = opened.store.freeList :=
  ⟨fun _ _ _ _ _ _ _ => ⟨rfl, rfl, rfl, rfl, rfl, rfl, accounted_loading _ _ _ _ _⟩,
    ⟨by decide, by decide, by decide +kernel⟩, by decide +kernel, by decide, by decide +kernel,
    ⟨by decide, fun r _ => no_record_of_kind_0 r⟩,
    ⟨by decide, by decide +kernel, by decide +kernel, by decide +kernel, fun r _ => no_watch_of_direction_0 r⟩,
    by decide +kernel, ⟨by decide +kernel, rfl⟩, not_in three 0x7FFFFF (by rw [entries_three]; decide), by decide +kernel,
    by decide +kernel, rfl, ⟨_, rfl⟩, ⟨rfl, accounted_opened_noFree⟩, fun _ _ h => (nomatch h), by decide +kernel,
    by decide +kernel, rfl⟩

/-- The entries of `plain` pass the walk over good lines. -/
theorem passes_plain : ∀ x ∈ plain.entries, (held .sealed .none).passesWalk x.2 := by
  rw [entries_plain]
  intro x hx
  refine ⟨by fin_cases hx <;> rfl, fun mask l hl => ⟨good_lines l, fun i _ => ?_⟩⟩
  have : l = 0 := by
    fin_cases hx <;> simp_all [sub, watch, redirect]
  subst this
  show (usedStore 1).lines[(0 : LineIdx)].words[i].agrees = true
  rw [used_line]
  have h : ∀ i : WordIdx, (usedLine 1).words[i].agrees = true := by decide +kernel
  exact h i

theorem test_hyp_VerifierTakesItsWords :
    (∀ ws ∈ [[], List.replicate 6 0, List.replicate 7 0],
      (verifying ws 1).inReset = false ∧
      (verifying ws 1).port.access.map (fun a => (a.who, a.givenUp)) = some (.verifier, false) ∧
      (verifying ws 1).scu.verifier = some ⟨.verifySet, 0, crc32Start, ws⟩ ∧
      ((verifying ws 1).table .staged).walk = [] ++ (0, { watch with origin := some 1 }) :: []) ∧
    (List.replicate 6 (0 : Word)).length + 1 < 8 ∧
    ((verifying [] 1).regions.classify (32 * 0x101 + 4 * 7)).kind ≠ .blocked ∧
    ((withBackground .blocked .forward).regions.classify (32 * 0x101 + 4 * 7)).kind = .blocked ∧
    (1 : BitVec 16) ≠ crc16 ((List.replicate 7 0 ++ [0]).flatMap mdBytes) ∧
    ((verifying (List.replicate 7 0) (crc16 (List.replicate 32 0))).table .staged).slots[(0 : Slot)] =
      some { watch with origin := some (crc16 ((List.replicate 7 0 ++ [0]).flatMap mdBytes)) } ∧
    (∀ who ∈ [VerifyStarter.verifySet, .commandLoad, .startUpLoad],
      (verifyingFor who [] 0).inReset = false ∧
      (verifyingFor who [] 0).port.access.map (fun a => (a.who, a.givenUp)) = some (.verifier, false) ∧
      (verifyingFor who [] 0).scu.verifier = some ⟨who, 0, crc32Start, []⟩) ∧
    ∀ x ∈ plain.entries, (held .sealed .none).passesWalk x.2 := by
  refine ⟨fun ws _ => ⟨rfl, rfl, rfl, ?_⟩, by decide, by decide +kernel, by decide +kernel, by decide +kernel,
    by decide +kernel, fun _ _ => ⟨rfl, rfl, rfl⟩, passes_plain⟩
  show Table.walk { Table.empty.setSlot 0 (some { watch with origin := some 1 }) with generation := 4 } = _
  decide +kernel

theorem test_hyp_VerificationStartsAndEnds :
    (∃ w : State, w = State.setTable
      { held .sealed .none with scu := { (held .sealed .none).scu with
          state := .verifying, verifier := some { starter := .verifySet, passed := 0, crc := 0xFFFFFFFF, origin := [] } } }
      .staged { (held .sealed .none).table .staged with result := .none }) ∧
    (∀ who ∈ [VerifyStarter.verifySet, .commandLoad, .startUpLoad],
      (verifyingFor who [] 0).scu.verifier = some ⟨who, 0, crc32Start, []⟩) ∧
    (byteAt (goodHeader 1) 5 = 1 ∧ byteAt ((goodHeader 1).set 5 0) 5 = 0) ∧
    (revertWaiting none).revertWaits = true ∧ (verifying [] 0).revertWaits = false ∧
    ((verifyingFor .startUpLoad [] 0).table .active).generation <
      ((verifyingFor .startUpLoad [] 0).table .staged).generation ∧
    (verifyingFor .startUpLoad [] 0).roles.distinct ∧
    (three.walk = [(0, sub)] ++ (1, watch) :: [(2, redirect)] ∧ watch.origin.isSome = true ∧
      State.passesWalk opened { watch with origin := none } ∧
      (opened.regions.classify (32 * 0x101)).kind ≠ .blocked ∧
      ((withBackground .blocked .forward).regions.classify (32 * 0x101)).kind = .blocked) ∧
    (badStore 1).lines[(0 : LineIdx)].bad = true ∧
    (((usedStore 1).upset [⟨0, 1, 5, false⟩]).lines[(0 : LineIdx)].bad = false ∧
      ((usedStore 1).upset [⟨0, 1, 5, false⟩]).lines[(0 : LineIdx)].words[(1 : WordIdx)].agrees = false) :=
  ⟨⟨_, rfl⟩, fun _ _ => rfl, by decide +kernel, rfl, rfl, by decide +kernel, by
    show State.reset.roles.distinct
    decide, ⟨by decide +kernel, rfl, ⟨rfl, fun _ _ h => (nomatch h)⟩, by decide +kernel, by decide +kernel⟩,
    by decide +kernel, by decide +kernel⟩

theorem test_hyp_ReadEntryReadsSlot :
    (∀ i ∈ [(0 : Slot), 1, 2, 63], (cmd patched 0x11 [0, BitVec.ofNat 8 i.val]).offers 0x11 7
      [Role.active.code, BitVec.ofNat 8 i.val] []) ∧
    (patched.table .active).slots[(63 : Slot)] = none ∧ (patched.table .active).slots[(0 : Slot)] = some sub ∧
    (patched.table .active).slots[(1 : Slot)] = some watch ∧ (patched.table .active).slots[(2 : Slot)] = some redirect ∧
    2 < (byteAt [3, 0] 0).toNat ∧ 63 < (byteAt [0, 64] 1).toNat ∧ (cmd patched 0x11 [0, 64]).offers 0x11 7 [0, 64] [] := by
  decide +kernel

theorem test_hyp_ScrubLineRestoresLine :
    (∀ p ∈ [[0, 1], [255, 0], [0, 0]], (cmd { opened with store := noFree 1 } 0x15 p).offers 0x15 7 p [] ∧
      p.length = 2) ∧
    255 < field [0, 1] 0 2 ∧ field [255, 0] 0 2 = (255 : LineIdx).val ∧ field [0, 0] 0 2 = (0 : LineIdx).val ∧
    (255 : LineIdx) ∈ (noFree 1).badList ∧ (0 : LineIdx) ∉ (noFree 1).badList ∧ (noFree 1).badList.Nodup :=
  ⟨fun p hp => ⟨⟨rfl, rfl, rfl⟩, by fin_cases hp <;> rfl⟩, by decide, by decide, by decide,
    (mem_others _).mpr (by decide), fun h => (mem_others _).mp h rfl, nodup_others⟩

theorem test_hyp_SetFreeThresholdSetsThreshold :
    (∀ p ∈ [[0, 1], [255, 0]], (cmd State.reset 0x16 p).offers 0x16 7 p [] ∧ p.length = 2) ∧
    255 < field [0, 1] 0 2 ∧ field [255, 0] 0 2 ≤ 255 ∧
    (∃ t, (after .pinReset State.reset).inReset = true ∧ exec (.pinResetEnd 0 0) (after .pinReset State.reset) = .next t) ∧
    ∃ t, (after .resetPart (cmd State.reset 0x03 [])).serviceResetDue = true ∧
      (after .resetPart (cmd State.reset 0x03 [])).inFlight = false ∧
      exec .serviceReset (after .resetPart (cmd State.reset 0x03 [])) = .next t :=
  ⟨by decide +kernel, by decide, by decide, ⟨_, rfl, rfl⟩, ⟨_, rfl, rfl, rfl⟩⟩

theorem test_hyp_StatusCommandsReport :
    (∀ c ∈ [(0x29 : Byte), 0x65, 0x73, 0x14, 0x02], (cmd patched c []).offers c 7 [] []) ∧
    (cmd patched 0x73 [14]).offers 0x73 7 [BitVec.ofNat 8 ((13 : Fin 14).val + 1)] [] ∧
    (cmd patched 0x14 [0, 0]).offers 0x14 7 [BitVec.ofNat 8 (0 : LineIdx).val, 0] [] ∧
    patched.events.fits ∧ patched.accounted ∧ (held .loading .none).scu.state = .loading ∧
    ((verifying [] 0).scu.state = .verifying ∧ (verifying [] 0).scu.verifier = some ⟨.verifySet, 0, crc32Start, []⟩) ∧
    (pendingCommit gated .service).scu.commit = some ⟨gated, some 1000, .service, false⟩ ∧ gated.gateLength < 65536 ∧
    patched.scu.commit = none ∧ patched.trace.records = [] ∧ patched.trace.records.length ≤ 512 ∧
    patched.store.badList[0]? = none ∧ patched.store.freeList[0]? = some 1 ∧
    (noFree 1).badList[254]? = some 255 ∧ patched.store.lines[(0 : LineIdx)].refCount ≠ 0 ∧
    ((cmd patched 0x14 [0, 1]).offers 0x14 7 [0, 1] [] ∧ 255 < field [0, 1] 0 2 ∧
      (∀ n ∈ [(0 : Byte), 15], (cmd patched 0x73 [n]).offers 0x73 7 [n] []) ∧ byteAt [0] 0 = 0 ∧
      14 < (byteAt [15] 0).toNat) :=
  ⟨fun _ _ => ⟨rfl, rfl, rfl⟩, ⟨rfl, rfl, rfl⟩, ⟨rfl, rfl, rfl⟩, by decide +kernel, accounted_patched, rfl, ⟨rfl, rfl⟩,
    by decide +kernel, by decide, rfl, rfl, by decide, rfl, rfl, by decide +kernel, by decide +kernel,
    ⟨rfl, rfl, rfl⟩, by decide, fun _ _ => ⟨rfl, rfl, rfl⟩, rfl, by decide⟩

/-- A trace unit in a state with so many records. -/
def tracing (st : CaptureState) (c : TraceConfig) (n : Nat) (post : Nat) : State :=
  { State.reset with
    trace := { TraceUnit.reset with
      state := st, config := c, postRemaining := post, seq := BitVec.ofNat 16 n
      records := (List.range n).map fun i => ⟨BitVec.ofNat 16 i, .marker ⟨.revert, 1, 2, .a⟩ 0⟩ } }

/-- A valid configuration in mode TRIGGERED with a window of one line. -/
def triggered : TraceConfig :=
  { TraceConfig.reset with mode := .triggered, window := some (0x100, 0x100), source := some .startFailed, post := 512 }

/-- The states in which a marker meets each case of the trace unit. -/
theorem test_hyp_marked :
    (TraceConfig.reset.markers = true ∧ TraceConfig.markers { TraceConfig.reset with markers := false } = false) ∧
    (tracing .capturing .reset 512 0).trace.records.length ≤ 512 ∧ (tracing .off .reset 0 0).trace.state = .off ∧
    (let s := tracing .capturing { TraceConfig.reset with mode := .stop } 512 0
     s.trace.state = .capturing ∧ s.trace.config.mode = .stop ∧ s.trace.records.length = 512 ∧
     (s.trace.records.getLast?.map fun r => r.seq) = some 511) ∧
    (tracing .armed triggered 1 0).trace.state = .armed ∧ (tracing .armed triggered 1 0).trace.records.length ≤ 512 ∧
    (tracing .armed { triggered with source := some .commitResult } 1 0).trace.config.source = some .commitResult ∧
    2 ≤ (tracing .post triggered 512 2).trace.postRemaining ∧ (tracing .post triggered 512 1).trace.postRemaining = 1 ∧
    (∀ tr : TraceUnit,
      State.accounted { held .verified .ok with trace := tr } ∧
      State.inReset { pendingCommit atBoundary .service with trace := tr } = false ∧
      State.inFlight { pendingCommit atBoundary .service with trace := tr } = false ∧
      State.inFlight { revertWaiting none with trace := tr } = false) :=
  ⟨by decide, by decide +kernel, rfl, by decide +kernel, rfl, by decide, rfl, by decide, rfl,
    fun _ => ⟨accounted_held .verified .ok, rfl, rfl, rfl⟩⟩

/-- A marker in POST with one record to come is the last record, and stops capture (R143). -/
theorem test_marker_ends_post :
    ((tracing .post triggered 2 1).traceMarker ⟨.revert, 1, 2, .a⟩).trace.state = .stopped ∧
      ((tracing .post triggered 2 1).traceMarker ⟨.revert, 1, 2, .a⟩).trace.records.length = 3 ∧
      ((tracing .post triggered 2 1).traceMarker ⟨.revert, 1, 2, .a⟩).stopSource.detail = 0x00020002 := by
  decide +kernel

/-- A marker that meets a full buffer in mode STOP is not made, and stops capture (R141). -/
theorem test_marker_meets_full_buffer :
    let s := (tracing .capturing { TraceConfig.reset with mode := .stop } 512 0).traceMarker ⟨.commit, 1, 2, .a⟩
    s.trace.state = .stopped ∧ s.trace.records.length = 512 ∧ s.trace.seq = 512 ∧ s.stopSource.detail = 0x01FF0001 := by
  decide +kernel

theorem test_hyp_TraceConfigureAndStart :
    triggered.valid ∧ (cmd State.reset 0x60 triggered.bytes).offers 0x60 7 triggered.bytes [] ∧
    triggered.bytes.length = 18 ∧
    (cmd State.reset 0x60 (List.replicate 18 3)).offers 0x60 7 (List.replicate 18 3) [] ∧
    (∀ c : TraceConfig, c.valid → List.replicate 18 3 ≠ c.bytes) ∧ State.reset.trace.state = .off ∧
    (cmd (tracing .armed triggered 0 0) 0x61 []).offers 0x61 7 [] [] ∧
    (tracing .armed triggered 0 0).trace.state ≠ .off ∧ (tracing .armed triggered 0 0).trace.state ≠ .stopped := by
  refine ⟨by simp [TraceConfig.valid, triggered, TraceConfig.reset], ⟨rfl, rfl, rfl⟩, by decide +kernel, ⟨rfl, rfl, rfl⟩,
    fun c _ h => ?_, rfl, ⟨rfl, rfl, rfl⟩, by decide,
    by decide⟩
  have h0 := congrArg (fun l => byteAt l 0) h
  simp only [TraceConfig.bytes, byteAt, List.cons_append, List.getD_cons_zero] at h0
  cases hm : c.mode <;> simp [hm, CaptureMode.code, List.replicate] at h0

theorem test_hyp_TraceStopReadClear :
    (∀ c ∈ [(0x62 : Byte), 0x64], (cmd (tracing .capturing .reset 2 0) c []).offers c 7 [] []) ∧
    (∀ n ∈ [(0 : Byte), 1, 3, 4], (cmd (tracing .capturing .reset 2 0) 0x63 [n]).offers 0x63 7 [n] []) ∧
    3 < (4 : Byte).toNat ∧ (3 : Byte).toNat ≤ 3 ∧
    (∃ out left : List TraceRecord, (tracing .capturing .reset 2 0).trace.records = out ++ left ∧
      out.length = min 3 (tracing .capturing .reset 2 0).trace.records.length) ∧
    (tracing .capturing .reset 2 0).trace.state = .capturing ∧ State.reset.trace.state = .off :=
  ⟨fun _ _ => ⟨rfl, rfl, rfl⟩, fun _ _ => ⟨rfl, rfl, rfl⟩, by decide, by decide,
    ⟨(tracing .capturing .reset 2 0).trace.records, [], by simp, by decide +kernel⟩, rfl, rfl⟩

/-- An end report that the reset configuration passes. -/
def report : EndReport :=
  { addr := 0x800, write := false, fetch := true, len := 0, region := some 0, trace := true, slot := some 0,
    generation := 3, outcome := .failed, underPatch := false, time := 0 }

theorem test_hyp_EndReportReachesTrace :
    (tracing .capturing .reset 512 0).trace.records.length ≤ 512 ∧ TraceConfig.reset.passes report = true ∧
    TraceConfig.passes { triggered with kindFetch := false } report = false ∧
    (tracing .capturing { TraceConfig.reset with mode := .stop } 512 0).trace.records.length = 512 ∧
    (∃ first last, triggered.window = some (first, last) ∧ first.toNat ≤ report.addr.toNat / 8 ∧
      report.addr.toNat / 8 ≤ last.toNat) ∧
    triggered.passes report = true ∧ (tracing .armed triggered 1 0).trace.state = .armed ∧
    2 ≤ (tracing .post triggered 1 2).trace.postRemaining ∧ (tracing .post triggered 1 1).trace.postRemaining = 1 :=
  ⟨by decide +kernel, by decide, by decide, by decide +kernel, ⟨0x100, 0x100, rfl, by decide, by decide⟩, by decide, rfl,
    by decide, rfl⟩

/-- SOFTWARE pending at level 3, with level 1 in service. -/
def alerting : State :=
  { State.reset with events := { EventUnit.reset with
      sources := EventUnit.reset.sources.set 11 { enable := true, level := 3, pending := true, count := 1, detail := 9 }
      inService := [1] } }

theorem test_hyp_TakeAndFinishEvents :
    alerting.events.fits ∧ State.reset.events.fits ∧
    (∀ i : Fin 14, (alerting.events.sources[i].enable = true ∧ alerting.events.sources[i].pending = true ∧
      ∀ l ∈ alerting.events.inService, l < alerting.events.sources[i].level) ↔ i = 11) ∧
    (cmd alerting 0x71 []).offers 0x71 7 [] [] ∧ (cmd alerting 0x72 []).offers 0x72 7 [] [] ∧
    alerting.events.inService = 1 :: [] ∧ State.reset.events.inService = [] := by
  decide +kernel

theorem test_hyp_ConfigureAndRaiseEvents :
    (∀ p ∈ [[12, 1, 3], [13, 1, 3], [1, 2, 1], [1, 0, 0], [1, 0, 4]], (cmd State.reset 0x70 p).offers 0x70 7 p [] ∧
      p.length = 3) ∧
    ((11 : Fin 14).val < 12 ∧ ([12, 1, 3] : List Byte) =
      [BitVec.ofNat 8 ((11 : Fin 14).val + 1), flagByte true, BitVec.ofNat 8 3]) ∧
    12 < (byteAt [13, 1, 3] 0).toNat ∧ 3 < (byteAt [1, 0, 4] 2).toNat ∧
    (cmd State.reset 0x74 [1, 2, 3, 4]).offers 0x74 7 [1, 2, 3, 4] [] := by decide +kernel

/-- A period with an out stream that carries a response of one byte. -/
def answering (n : Nat) (sent : Bool) : State :=
  let s := period { State.reset with svp := { ServicePort.reset with responses := [⟨7, .ok, [1]⟩] } } (List.replicate n 0)
  { s with svp := { s.svp with out := s.svp.out.map fun o => { o with headerSent := sent } } }

theorem test_hyp_SelectPeriodRuns :
    (State.reset.svp.ssLow = false ∧ State.reset.inReset = false) ∧
    (∀ s ∈ [answering 3 false, answering 4 true, answering 10 true],
      s.inReset = false ∧ s.svp.ssLow = true ∧ s.svp.ignoring = false ∧ s.periodFits ∧
      s.svp.out.isSome = true ∧ s.svp.decided = false ∧ undecidedBytes (s.svp.shifter ++ [0]) ∧
      (s.svp.shifter ++ [0]).headD 0 = 0) ∧
    (let s := after (.pinResetEnd 0 0) (after .pinReset (after .selectPeriodStart State.reset))
     s.inReset = false ∧ s.svp.ssLow = true ∧ s.svp.ignoring = true) ∧
    ∃ t, exec (.requestFrame [0]) (answering 3 false) = .next t := by
  refine ⟨by decide, ?_, by decide +kernel, ⟨_, rfl⟩⟩
  decide +kernel

theorem test_hyp_RequestsAreDecided :
    (period State.reset []).periodFits ∧
    (let s := period State.reset []
     s.inReset = false ∧ s.svp.ssLow = true ∧ s.svp.ignoring = false ∧ s.svp.decided = false ∧ s.svp.shifter = [] ∧
     s.svp.commands.length < 4 ∧
     s.svp.responses.length + s.svp.commands.length + (if s.svp.executing.isSome then 1 else 0) < 8) ∧
    (List.replicate 56 (0xC3 : Byte)).length ≤ 56 ∧
    4 ≤ (List.replicate 4 (⟨7, 1, []⟩ : QueuedCommand)).length ∧
    (0 : Byte).toNat + 256 * (0 : Byte).toNat ≠ (crc16 ([7, 0x20, BitVec.ofNat 8 0] ++ [])).toNat ∧
    (0xA4 : Byte) ≠ 0 ∧ (0xA4 : Byte) ≠ 0xA5 ∧ 56 < (57 : Byte).toNat ∧
    ([0xA5, 7, 0x20] : List Byte).head? = some 0xA5 ∧ ([0xA5, 7, 0x20] : List Byte).length < 4 ∧
    ((byteAt [0xA5, 7, 0x20, 56] 3).toNat ≤ 56 ∧ ([0xA5, 7, 0x20, 56] : List Byte).length < 6 + 56) := by
  refine ⟨?_, by decide +kernel⟩
  decide +kernel

theorem test_hyp_EchoAnswersItsBytes : (cmd State.reset 0x01 [1, 2]).offers 0x01 7 [1, 2] [] := ⟨rfl, rfl, rfl⟩

theorem test_hyp_ExecutorTakesOneCommand :
    (cmd State.reset 0x03 []).offers 0x03 7 [] [] ∧
    (commandCode .echo = some 0x01 ∧ (revertWaiting none).svp.executing.isSome = true) ∧
    (∃ t, exec .echo (cmd State.reset 0x01 []) = .next t) ∧
    (cmd State.reset 0xFF []).offers 0xFF 7 [] [] ∧ ∀ c : Instr, commandCode c ≠ some 0xFF :=
  ⟨⟨rfl, rfl, rfl⟩, ⟨rfl, rfl⟩, ⟨_, rfl⟩, ⟨rfl, rfl, rfl⟩, fun c => by cases c <;> simp [commandCode]⟩

theorem test_hyp_EntryRecordsRoundTrip :
    newSub.wellFormed = true ∧ parseRecord newSub.bytes = some newSub ∧
    newSub.bytes = [0xFF, 0xFF, 0x7F, 1, 0x80, 3, 16, 0, 0xFF, 0xFF, 0, 0, 0x78, 0x56, 0x34, 0x12] := by decide +kernel

/-- A well-formed state with a command waiting. -/
def ready : State := { held .sealed .none with pending := [.timeBaseStep] }

theorem wf_ready : ready.wf := ⟨wf_held.1, wf_held.2, wf_held.3, wf_held.4, wf_held.5, wf_held.6⟩

theorem test_hyp_UnitsStayInBounds :
    ∃ t, step ready = .next t ∧ ready.trace.fits ∧ ready.events.fits ∧ ready.svp.fits ∧
      (∀ i : Fin 8, ready.regions.records[i].fits) ∧ ready.timersFit ∧ ready.periodFits :=
  ⟨_, rfl, by decide, by decide, by decide, by decide, by decide +kernel, by decide +kernel⟩

theorem test_hyp_ControlStaysTogether : ∃ t, ready.wf ∧ step ready = .next t := ⟨_, wf_ready, rfl⟩

theorem test_hyp_AccountingKept : ∃ t, ready.wf ∧ step ready = .next t := ⟨_, wf_ready, rfl⟩

theorem test_hyp_HostAndPortStayTogether : ∃ t, ready.wf ∧ step ready = .next t := ⟨_, wf_ready, rfl⟩

end Sys2Proof.Tests
end

section
/-! PROOF. The line store and its accounting (chapter 2): the free-count threshold. -/

namespace Sys2Proof.Machine

open Sys2Proof

/-! ### The store after both resets -/

@[simp] theorem State.enterStartUp_store (s : State) : s.enterStartUp.store = s.store := by
  unfold State.enterStartUp
  split <;> rfl

@[simp] theorem LineStore.afterReset_threshold (st : LineStore) : st.afterReset.threshold = 0 := rfl

@[simp] theorem State.pinResetBlocks_store (s : State) : s.pinResetBlocks.store = s.store.afterReset := rfl

@[simp] theorem State.serviceResetBlocks_store (s : State) : s.serviceResetBlocks.store = s.store.afterReset := rfl

/-- The end of pin reset leaves the store with its accounting at reset (R38). -/
theorem store_of_exec_pinResetEnd {s t : State} {b k : BitVec 2} (hs : s.inReset = true)
    (h : exec (.pinResetEnd b k) s = .next t) : t.store = s.store.afterReset := by
  have harm : exec (.pinResetEnd b k) s = execPinResetEnd b k s := rfl
  rw [harm, execPinResetEnd, if_pos hs] at h
  cases h
  simp

/-- A service reset at its boundary leaves the store with its accounting at reset (R38, R170). -/
theorem store_of_exec_serviceReset {s t : State} (hs : s.inReset = false) (hdue : s.serviceResetDue = true)
    (hfree : s.inFlight = false) (h : exec .serviceReset s = .next t) : t.store = s.store.afterReset := by
  have harm : exec .serviceReset s = execServiceReset s := rfl
  rw [harm, execServiceReset, State.whenUp_of hs, if_pos (by simp [hdue, hfree])] at h
  cases h
  simp

/-! ### SET_FREE_THRESHOLD (R35) -/

/-- The state with another free-count threshold. -/
def State.setThreshold (s : State) (v : BitVec 8) : State := { s with store := { s.store with threshold := v } }

theorem State.runSetFreeThreshold_of_gt {p : List Byte} (s : State) (h : 255 < field p 0 2) :
    s.runSetFreeThreshold p = s.refuse .badArgument := by
  simp [State.runSetFreeThreshold, thresholdArg, show ¬ field p 0 2 < 256 by omega]

theorem State.runSetFreeThreshold_of_le {p : List Byte} (s : State) (h : field p 0 2 ≤ 255) :
    s.runSetFreeThreshold p =
      (s.setThreshold (BitVec.ofNat 8 (field p 0 2)), .ok, leBytes 2 s.store.freeList.length) := by
  simp [State.runSetFreeThreshold, thresholdArg, show field p 0 2 < 256 by omega, State.setThreshold]

/-- An offered SET_FREE_THRESHOLD of two payload bytes goes to its rule. -/
theorem exec_setFreeThreshold_offers {s : State} {tag : Byte} {p : List Byte} {rest : List QueuedCommand}
    (h : s.offers 0x16 tag p rest) (hp : p.length = 2) :
    exec .setFreeThreshold s =
      .next (((s.taken rest).runSetFreeThreshold p).1.respond tag ((s.taken rest).runSetFreeThreshold p).2.1
        ((s.taken rest).runSetFreeThreshold p).2.2) := by
  have hfits : payloadFits 0x16 p.length = true := by rw [hp]; rfl
  have harm : exec .setFreeThreshold s = execSetFreeThreshold s := rfl
  rw [harm, execSetFreeThreshold, State.runReply_offers _ h hfits]

/-- A value above 255 is refused and only the response queue changes. -/
theorem exec_setFreeThreshold_of_gt {s : State} {tag : Byte} {p : List Byte} {rest : List QueuedCommand}
    (h : s.offers 0x16 tag p rest) (hp : p.length = 2) (hv : 255 < field p 0 2) :
    exec .setFreeThreshold s = .next (s.ended rest tag .badArgument []) := by
  rw [exec_setFreeThreshold_offers h hp, State.runSetFreeThreshold_of_gt _ hv]
  exact congrArg _ (State.taken_respond s rest tag .badArgument [])

/-- A value up to 255 becomes the threshold, and nothing else changes but the queues. -/
theorem exec_setFreeThreshold_of_le {s : State} {tag : Byte} {p : List Byte} {rest : List QueuedCommand}
    (h : s.offers 0x16 tag p rest) (hp : p.length = 2) (hv : field p 0 2 ≤ 255) :
    exec .setFreeThreshold s =
      .next ((s.setThreshold (BitVec.ofNat 8 (field p 0 2))).ended rest tag .ok
        (leBytes 2 s.store.freeList.length)) := by
  rw [exec_setFreeThreshold_offers h hp, State.runSetFreeThreshold_of_le _ hv]
  exact congrArg _ (State.taken_respond (s.setThreshold _) rest tag .ok _)

/-- Settles O44: the command by the two ranges of its argument, the resets by the store's value after reset. -/
theorem setFreeThresholdSetsThreshold : Obligations.SetFreeThresholdSetsThreshold := by
  refine ⟨fun s tag p rest h hp => ⟨exec_setFreeThreshold_of_gt h hp, exec_setFreeThreshold_of_le h hp⟩,
    fun s t b k hs h => ?pin, fun s t hs hdue hfree h => ?service⟩
  case pin => rw [store_of_exec_pinResetEnd hs h, LineStore.afterReset_threshold]
  case service => rw [store_of_exec_serviceReset hs hdue hfree h, LineStore.afterReset_threshold]

end Sys2Proof.Machine
end

section
/-! PROOF. The staged set (chapter 3): OPEN_SET, SEAL_SET, UNSEAL_SET and REMOVE_ENTRY. -/

namespace Sys2Proof.Machine

open Sys2Proof

/-! ### The executor -/

/-- When the owning rule leaves `t` but for the command taken from the queue, the command ends in `t`. -/
theorem State.runReply_eq_ended {s t : State} {code tag : Byte} {p : List Byte} {rest : List QueuedCommand}
    {r : ResultCode} {q : List Byte} {body : List Byte → State → Reply} (h : s.offers code tag p rest)
    (hp : payloadFits code p.length = true) (hb : body p (s.taken rest) = (t.taken rest, r, q)) :
    s.runReply code body = t.ended rest tag r q := by
  rw [State.runReply_offers body h hp, hb, State.taken_respond]

/-! ### Slots and entries of a table -/

theorem Table.mem_entries {t : Table} {i : Slot} {e : Entry} : (i, e) ∈ t.entries ↔ t.slots[i] = some e := by
  simp [Table.entries, allSlots]

/-- In a keyed table a line number has one slot (R2). -/
theorem Table.keyed.slot_unique {t : Table} (h : t.keyed) {i j : Slot} {e f : Entry} (hi : t.slots[i] = some e)
    (hj : t.slots[j] = some f) (hl : e.line = f.line) : i = j := by
  have hij : ((i, e) : Slot × Entry) = (j, f) :=
    List.inj_on_of_nodup_map h.1 (Table.mem_entries.mpr hi) (Table.mem_entries.mpr hj) hl
  exact congrArg Prod.fst hij

theorem Table.find_eq_none_iff {t : Table} {n : LineNumber} :
    t.find n = none ↔ ∀ (i : Slot) (e : Entry), t.slots[i] = some e → e.line ≠ n := by
  simp [Table.find, allSlots, Option.any_eq_false]

/-- In a keyed table the search for a line number ends at its slot. -/
theorem Table.keyed.find_eq_some {t : Table} (h : t.keyed) {i : Slot} {e : Entry} (hi : t.slots[i] = some e) :
    t.find e.line = some i := by
  cases hf : t.find e.line with
  | none => exact absurd rfl (Table.find_eq_none_iff.mp hf i e hi)
  | some j =>
    obtain ⟨f, hj, hl⟩ : ∃ f, t.slots[j] = some f ∧ f.line = e.line := by
      simpa [Option.any_eq_true] using List.find?_some hf
    rw [h.slot_unique hi hj hl.symm]

/-- The lowest free slot is free and no slot below it is (R4). -/
theorem Table.lowestFree_eq_some_iff {t : Table} {i : Slot} :
    t.lowestFree = some i ↔ t.slots[i] = none ∧ ∀ j : Slot, j < i → t.slots[j] ≠ none := by
  rw [Table.lowestFree, allSlots, ← Fin.find?_eq_find?_finRange, Fin.find?_eq_some_iff]
  simp [Option.isSome_iff_ne_none]

theorem Table.count_eq_countP (t : Table) : t.count = allSlots.countP fun i => t.slots[i].isSome := by
  simp [Table.count, Table.entries, List.length_filterMap_eq_countP]

/-- A write to one slot changes the count by what it puts there and what it takes away. -/
theorem Table.count_setSlot (t : Table) (i : Slot) (x : Option Entry) :
    (t.setSlot i x).count + t.slots[i].isSome.toNat = t.count + x.isSome.toNat := by
  have hperm : allSlots.Perm (i :: allSlots.erase i) := List.perm_cons_erase (List.mem_finRange i)
  have hothers : (allSlots.erase i).countP (fun j => (t.setSlot i x).slots[j].isSome) =
      (allSlots.erase i).countP fun j => t.slots[j].isSome := by
    refine List.countP_congr fun j hj => ?_
    have hne : j ≠ i := ((List.nodup_finRange 64).mem_erase_iff.mp hj).1
    rw [Table.setSlot_slots_ne t i j x hne]
  rw [Table.count_eq_countP, Table.count_eq_countP, hperm.countP_eq, hperm.countP_eq, List.countP_cons,
    List.countP_cons, hothers, Table.setSlot_slots_self]
  cases t.slots[i] <;> cases x <;> simp

/-- An entry that leaves its slot lowers the count by one. -/
theorem Table.count_setSlot_none {t : Table} {i : Slot} {e : Entry} (hi : t.slots[i] = some e) :
    (t.setSlot i none).count + 1 = t.count := by
  simpa [hi] using t.count_setSlot i none

/-- A freed slot is the lowest free one when every slot below it is occupied (R4, R47). -/
theorem Table.lowestFree_setSlot_none {t : Table} {i : Slot} (h : ∀ j : Slot, j < i → t.slots[j] ≠ none) :
    (t.setSlot i none).lowestFree = some i := by
  refine Table.lowestFree_eq_some_iff.mpr ⟨t.setSlot_slots_self i none, fun j hj => ?_⟩
  rw [Table.setSlot_slots_ne t i j none (ne_of_lt hj)]
  exact h j hj

/-! ### Lines that entries name -/

/-- A line that an entry of a table names has a reference from that table (R24). -/
theorem Table.refs_pos {t : Table} {i : Slot} {e : Entry} {l : LineIdx} (hi : t.slots[i] = some e)
    (hl : e.storeLine = some l) : 0 < t.refs l :=
  List.countP_pos_iff.mpr ⟨(i, e), Table.mem_entries.mpr hi, by simp [hl]⟩

theorem Tables.refs_get_le (t : Tables) (x : Letter) (l : LineIdx) : (t.get x).refs l ≤ t.refs l := by
  cases x <;> simp only [Tables.get, Tables.refs] <;> omega

/-- Under the accounting a line that an entry names has a count above 0 (R24). -/
theorem State.accounted.refCount_pos {s : State} (h : s.accounted) {r : Role} {i : Slot} {e : Entry} {l : LineIdx}
    (hi : (s.table r).slots[i] = some e) (hl : e.storeLine = some l) : 0 < s.store.lines[l].refCount := by
  obtain ⟨hcount, -⟩ := h
  rw [hcount l]
  exact (Table.refs_pos hi hl).trans_le (s.tables.refs_get_le (s.roles.letter r) l)

/-- The release of a line with a reference, in the words of the statements (R29). -/
theorem LineStore.released_release {st : LineStore} {l : LineIdx} (h : 0 < st.lines[l].refCount) :
    st.released (st.release l) l := by
  obtain ⟨hline, hothers, hthreshold, hfree, hbad⟩ := st.release_spec l
  have hone : st.lines[l].refCount - 1 = 0 ↔ st.lines[l].refCount = 1 := by omega
  refine ⟨hthreshold, hline, hothers, ?_, ?_⟩
  · simp only [hfree, hone]; split <;> simp
  · simp only [hbad, hone]; split <;> simp

theorem LineStore.releaseEntry_of_none {st : LineStore} {e : Entry} (h : e.storeLine = none) :
    st.releaseEntry e = st := by
  simp [LineStore.releaseEntry, h]

theorem LineStore.releaseEntry_of_some {st : LineStore} {e : Entry} {l : LineIdx} (h : e.storeLine = some l) :
    st.releaseEntry e = st.release l := by
  simp [LineStore.releaseEntry, h]

/-! ### OPEN_SET (R42) -/

theorem exec_openSet_eq_ended {s t : State} {tag : Byte} {rest : List QueuedCommand} {r : ResultCode} {q : List Byte}
    (h : s.offers 0x20 tag [] rest) (hb : (s.taken rest).runOpenSet [] = (t.taken rest, r, q)) :
    exec .openSet s = .next (t.ended rest tag r q) :=
  congrArg _ (State.runReply_eq_ended h rfl hb)

theorem State.runOpenSet_of_empty {p : List Byte} {s : State} (hs : s.scu.state = .empty) :
    s.runOpenSet p = ({ s with scu := { s.scu with state := .opened } }, .ok, [s.roles.staged.code]) := if_pos hs

theorem State.runOpenSet_of_ne_empty {p : List Byte} {s : State} (hs : s.scu.state ≠ .empty) :
    s.runOpenSet p = (s, .busyState, []) := if_neg hs

theorem Table.slots_empty (i : Slot) : Table.empty.slots[i] = none := by simp [Table.empty]

/-- Settles O14: by the test of EMPTY; the record is that of the EMPTY row, which the command leaves as it is. -/
theorem openSetOpensEmptySet : Obligations.OpenSetOpensEmptySet := by
  refine fun s tag rest h hfits => ⟨fun hs => ?opens, fun hs => ?busy⟩
  case opens =>
    have hempty : s.table .staged = Table.empty := by rwa [hs] at hfits
    exact ⟨_, rfl, exec_openSet_eq_ended h (State.runOpenSet_of_empty hs),
      fun i => (congrArg (fun t => t.slots[i]) hempty).trans (Table.slots_empty i), congrArg Table.generation hempty,
      congrArg Table.expectedCrc hempty, congrArg Table.result hempty, rfl, rfl⟩
  case busy => exact exec_openSet_eq_ended h (State.runOpenSet_of_ne_empty hs)

/-! ### SEAL_SET (R48) -/

theorem exec_sealSet_eq_ended {s t : State} {tag : Byte} {p : List Byte} {rest : List QueuedCommand} {r : ResultCode}
    {q : List Byte} (h : s.offers 0x25 tag p rest) (hp : p.length = 6)
    (hb : (s.taken rest).runSealSet p = (t.taken rest, r, q)) : exec .sealSet s = .next (t.ended rest tag r q) :=
  congrArg _ (State.runReply_eq_ended h (by rw [hp]; rfl) hb)

theorem State.runSealSet_of_zero {p : List Byte} {s : State} (hs : s.scu.state = .opened) (hg : field p 0 2 = 0) :
    s.runSealSet p = (s, .badArgument, []) := (if_pos hs).trans (if_pos hg)

/-- With a generation the set is frozen under it; the verification result NONE stays. -/
theorem State.runSealSet_of_ne_zero {p : List Byte} {s : State} (hs : s.scu.state = .opened)
    (hresult : (s.table .staged).result = .none) (hg : field p 0 2 ≠ 0) :
    s.runSealSet p =
      (State.setTable { s with scu := { s.scu with state := .sealed, computedCrc := 0 } } .staged
        { slots := (s.table .staged).slots, generation := BitVec.ofNat 16 (field p 0 2),
          expectedCrc := BitVec.ofNat 32 (field p 2 4), result := .none }, .ok,
        [BitVec.ofNat 8 (s.table .staged).count]) := by
  rw [← hresult]
  exact (if_pos hs).trans (if_neg hg)

/-- Settles O20: by the test of the generation, the record of OPEN having result NONE. -/
theorem sealSetFreezesSet : Obligations.SealSetFreezesSet := by
  intro s tag p rest h hp hs hfits
  rw [hs] at hfits
  obtain ⟨-, -, hresult⟩ := hfits
  exact ⟨fun hg => exec_sealSet_eq_ended h hp (State.runSealSet_of_zero hs hg),
    fun hg => exec_sealSet_eq_ended h hp (State.runSealSet_of_ne_zero hs hresult hg)⟩

/-! ### UNSEAL_SET (R49) -/

theorem exec_unsealSet_eq_ended {s t : State} {tag : Byte} {rest : List QueuedCommand} {r : ResultCode} {q : List Byte}
    (h : s.offers 0x26 tag [] rest) (hb : (s.taken rest).runUnsealSet [] = (t.taken rest, r, q)) :
    exec .unsealSet s = .next (t.ended rest tag r q) :=
  congrArg _ (State.runReply_eq_ended h rfl hb)

theorem State.runUnsealSet_of_accepted {p : List Byte} {s : State}
    (hs : s.scu.state = .sealed ∨ s.scu.state = .verified ∨ s.scu.state = .failed) :
    s.runUnsealSet p =
      (State.setTable { s with scu := { s.scu with state := .opened, computedCrc := 0 } } .staged
        { slots := (s.table .staged).slots, generation := 0, expectedCrc := 0, result := .none }, .ok, []) := if_pos hs

theorem State.runUnsealSet_of_not_accepted {p : List Byte} {s : State}
    (hs : ¬ (s.scu.state = .sealed ∨ s.scu.state = .verified ∨ s.scu.state = .failed)) :
    s.runUnsealSet p = (s, .busyState, []) := if_neg hs

/-- Settles O21: by the test of the state; each of the five other states fails it. -/
theorem unsealSetReopensSet : Obligations.UnsealSetReopensSet := by
  refine fun s tag rest h => ⟨fun hs => exec_unsealSet_eq_ended h (State.runUnsealSet_of_accepted hs), fun hs => ?_⟩
  have hother : ¬ (s.scu.state = .sealed ∨ s.scu.state = .verified ∨ s.scu.state = .failed) := by
    obtain hs | hs | hs | hs | hs := hs <;> simp [hs]
  exact exec_unsealSet_eq_ended h (State.runUnsealSet_of_not_accepted hother)

/-! ### REMOVE_ENTRY (R47) -/

theorem lineNumberArg_of_gt {p : List Byte} (h : 0x7FFFFF < field p 0 3) : lineNumberArg p = none :=
  if_neg (Nat.not_lt.mpr h)

theorem lineNumberArg_of_le {p : List Byte} (h : field p 0 3 ≤ 0x7FFFFF) :
    lineNumberArg p = some (BitVec.ofNat 23 (field p 0 3)) := if_pos (Nat.lt_succ_of_le h)

/-- The line number of an entry, as the argument names it. -/
theorem lineNumberArg_of_eq {p : List Byte} {n : LineNumber} (h : n.toNat = field p 0 3) :
    lineNumberArg p = some n := by
  rw [lineNumberArg_of_le (by omega), ← h, BitVec.ofNat_toNat, BitVec.setWidth_eq]

theorem exec_removeEntry_eq_ended {s t : State} {tag : Byte} {p : List Byte} {rest : List QueuedCommand}
    {r : ResultCode} {q : List Byte} (h : s.offers 0x24 tag p rest) (hp : p.length = 3)
    (hb : (s.taken rest).runRemoveEntry p = (t.taken rest, r, q)) :
    exec .removeEntry s = .next (t.ended rest tag r q) :=
  congrArg _ (State.runReply_eq_ended h (by rw [hp]; rfl) hb)

theorem State.runRemoveEntry_of_gt {p : List Byte} {s : State} (hs : s.scu.state = .opened)
    (hn : 0x7FFFFF < field p 0 3) : s.runRemoveEntry p = (s, .badArgument, []) := by
  simp [State.runRemoveEntry, hs, lineNumberArg_of_gt hn]

/-- A line number that no entry has is refused. -/
theorem State.runRemoveEntry_of_absent {p : List Byte} {s : State} (hs : s.scu.state = .opened)
    (hn : field p 0 3 ≤ 0x7FFFFF)
    (habsent : ∀ (i : Slot) (e : Entry), (s.table .staged).slots[i] = some e → e.line.toNat ≠ field p 0 3) :
    s.runRemoveEntry p = (s, .notFound, []) := by
  have hfind : (s.table .staged).find (BitVec.ofNat 23 (field p 0 3)) = none := by
    refine Table.find_eq_none_iff.mpr fun i e hi hl => habsent i e hi ?_
    rw [hl, BitVec.toNat_ofNat, Nat.mod_eq_of_lt (by omega)]
  simp [State.runRemoveEntry, hs, lineNumberArg_of_le hn, hfind]

/-- The entry that the argument names is released and leaves its slot. -/
theorem State.runRemoveEntry_of_slot {p : List Byte} {s : State} {i : Slot} {e : Entry} (hs : s.scu.state = .opened)
    (hkeyed : (s.table .staged).keyed) (hi : (s.table .staged).slots[i] = some e) (hl : e.line.toNat = field p 0 3) :
    s.runRemoveEntry p =
      (State.setTable { s with store := s.store.releaseEntry e } .staged ((s.table .staged).setSlot i none), .ok,
        [BitVec.ofNat 8 i.val]) := by
  rw [State.runRemoveEntry, if_pos hs, lineNumberArg_of_eq hl]
  simp only [hkeyed.find_eq_some hi, hi]

/-- Settles O19: by the tests in order; the keying gives the named entry's slot, the accounting its line's count. -/
theorem removeEntryFreesSlot : Obligations.RemoveEntryFreesSlot := by
  refine fun s tag p rest h hp hs hkeyed hacc =>
    ⟨fun hn => ?outOfRange, fun hn habsent => ?absent, fun i e hi hl => ?found⟩
  case outOfRange => exact exec_removeEntry_eq_ended h hp (State.runRemoveEntry_of_gt hs hn)
  case absent => exact exec_removeEntry_eq_ended h hp (State.runRemoveEntry_of_absent hs hn habsent)
  case found =>
    refine ⟨(s.table .staged).setSlot i none, s.store.releaseEntry e,
      exec_removeEntry_eq_ended h hp (State.runRemoveEntry_of_slot hs hkeyed hi hl),
      Table.setSlot_slots_self _ i none, fun j hj => Table.setSlot_slots_ne _ i j none hj, Table.count_setSlot_none hi,
      rfl, rfl, rfl, Table.lowestFree_setSlot_none, ?_⟩
    cases hline : e.storeLine with
    | none => exact LineStore.releaseEntry_of_none hline
    | some l =>
      rw [LineStore.releaseEntry_of_some hline]
      exact LineStore.released_release (hacc.refCount_pos hi hline)

end Sys2Proof.Machine
end

section
/-! PROOF. The access trace (chapter 9): TRACE_CONFIGURE, TRACE_START, TRACE_STOP, TRACE_READ and TRACE_CLEAR. -/

namespace Sys2Proof.Machine

open Sys2Proof

/-! ### Capture at rest -/

theorem TraceUnit.atRest_iff {t : TraceUnit} : t.atRest = true ↔ t.state = .off ∨ t.state = .stopped := by
  simp [TraceUnit.atRest]

/-- The two refused tests of the state, as the negation of the accepted one. -/
theorem TraceUnit.not_atRest {t : TraceUnit} (hoff : t.state ≠ .off) (hstopped : t.state ≠ .stopped) :
    ¬ t.atRest = true := fun h => (TraceUnit.atRest_iff.mp h).elim hoff hstopped

/-! ### Codes and flags of the configuration (R183) -/

theorem CaptureMode.ofCode_eq_some_iff {b : Byte} {m : CaptureMode} : CaptureMode.ofCode b = some m ↔ b = m.code := by
  refine ⟨fun h => ?_, fun h => h ▸ CaptureMode.ofCode_code m⟩
  unfold CaptureMode.ofCode at h
  split at h
  · cases h; assumption
  · split at h
    · cases h; assumption
    · split at h
      · cases h; assumption
      · cases h

/-- A byte of two flags with the bits above them zero. -/
theorem eq_flagBits_pair_iff {x : Byte} {a b : Bool} :
    x = flagBits [a, b] ↔ x.toNat ≤ 3 ∧ x.getLsbD 0 = a ∧ x.getLsbD 1 = b := by
  refine ⟨fun h => ?writes, fun ⟨hx, ha, hb⟩ => ?reads⟩
  case writes => subst h; cases a <;> cases b <;> decide
  case reads =>
    subst ha hb
    obtain ⟨n, hn, rfl⟩ : ∃ n ≤ 3, x = BitVec.ofNat 8 n := ⟨x.toNat, hx, by simp⟩
    interval_cases n <;> rfl

theorem EventSource.ofIndex_eq_iff {i : Fin 14} {src : EventSource} :
    EventSource.ofIndex i = src ↔ i = src.index := by
  constructor
  · rintro rfl; revert i; decide
  · rintro rfl; cases src <;> rfl

theorem EventSource.number_bounds (src : EventSource) : 1 ≤ src.number ∧ src.number ≤ 14 :=
  ⟨Nat.le_add_left 1 _, src.index.isLt⟩

theorem EventSource.ofNumber_eq_some_iff {n : Nat} {src : EventSource} :
    EventSource.ofNumber n = some src ↔ n = src.number := by
  have hsrc := src.number_bounds
  unfold EventSource.ofNumber
  split
  case isTrue hn =>
    rw [Option.some_inj, EventSource.ofIndex_eq_iff, Fin.ext_iff, EventSource.number]
    exact Nat.sub_eq_iff_eq_add hn.1
  case isFalse hn => exact iff_of_false (by simp) fun h => hn (h ▸ hsrc)

/-- The trigger source byte: 0 for none, else the number of a source other than TRACE_STOPPED (R144). -/
theorem triggerSourceArg_eq_some_iff {b : Byte} {o : Option EventSource} :
    triggerSourceArg b = some o ↔
      o ≠ some .traceStopped ∧ b = BitVec.ofNat 8 ((o.map EventSource.number).getD 0) := by
  have hnumber (src : EventSource) : b = BitVec.ofNat 8 src.number ↔ EventSource.ofNumber b.toNat = some src := by
    have hsrc := src.number_bounds
    rw [EventSource.ofNumber_eq_some_iff, ← BitVec.toNat_inj, BitVec.toNat_ofNat, Nat.mod_eq_of_lt (by omega)]
  unfold triggerSourceArg
  split
  case isTrue hb =>
    subst hb
    cases o with
    | none => simp
    | some src =>
      have hzero : EventSource.ofNumber (BitVec.toNat (0 : Byte)) ≠ some src := nofun
      simp only [Option.map_some, Option.getD_some, hnumber, hzero, and_false, iff_false]
      nofun
  case isFalse hb =>
    cases o with
    | none => split <;> simpa using hb
    | some src =>
      simp only [Option.map_some, Option.getD_some, hnumber]
      split
      case h_1 hnone => simp [hnone]
      case h_2 hstopped => simp [hstopped, eq_comm]
      case h_3 other hother hsome =>
        simp only [hsome, Option.some_inj, ne_eq]
        exact ⟨fun h => ⟨h ▸ hother, h⟩, And.right⟩

/-! ### The bytes of a configuration (R144, R183) -/

/-- The bytes hold the fields of the configuration, with the reserved bytes and bits zero (R183). -/
structure TraceConfig.LaidOut (c : TraceConfig) (p : List Byte) : Prop where
  mode : byteAt p 0 = c.mode.code
  dirs : byteAt p 1 = flagBits [c.dirRead, c.dirWrite]
  kinds : byteAt p 2 = flagBits [c.kindFetch, c.kindData]
  outcomes : field p 3 2 = c.outcomes.toNat
  flags : byteAt p 5 = flagBits [c.markers, c.window.isSome]
  source : byteAt p 6 = BitVec.ofNat 8 ((c.source.map EventSource.number).getD 0)
  reserved7 : byteAt p 7 = 0
  post : field p 8 2 = c.post
  first : field p 10 3 = (c.window.map fun w => w.1.toNat).getD 0
  reserved13 : byteAt p 13 = 0
  last : field p 14 3 = (c.window.map fun w => w.2.toNat).getD 0
  reserved17 : byteAt p 17 = 0

/-- A field within a structure, written again. -/
theorem leBytes_field {p : List Byte} {off n : Nat} (h : off + n ≤ p.length) :
    leBytes n (field p off n) = (p.drop off).take n := by
  have hlen : ((p.drop off).take n).length = n := by simp; omega
  calc leBytes n (field p off n)
    _ = leBytes ((p.drop off).take n).length (leNat ((p.drop off).take n)) := by rw [hlen, field]
    _ = (p.drop off).take n := leBytes_leNat _

/-- Eighteen bytes, cut into the fields of TRACE_CONFIGURE. -/
theorem eq_traceConfigure_fields {p : List Byte} (hp : p.length = 18) :
    p = [byteAt p 0, byteAt p 1, byteAt p 2] ++ leBytes 2 (field p 3 2) ++ [byteAt p 5, byteAt p 6, byteAt p 7] ++
      leBytes 2 (field p 8 2) ++ leBytes 3 (field p 10 3) ++ [byteAt p 13] ++ leBytes 3 (field p 14 3) ++
      [byteAt p 17] := by
  rw [leBytes_field (by omega), leBytes_field (by omega), leBytes_field (by omega), leBytes_field (by omega)]
  obtain ⟨v, rfl⟩ : ∃ v : Fin 18 → Byte, p = List.ofFn v :=
    ⟨fun i => p[i], List.ext_getElem (by simp [hp]) fun i _ _ => by rw [List.getElem_ofFn]; rfl⟩
  rfl

/-- A line number of a window, as the two window fields hold it, has room in three bytes. -/
theorem windowField_lt (o : Option (LineNumber × LineNumber)) (f : LineNumber × LineNumber → LineNumber) :
    (o.map fun w => (f w).toNat).getD 0 < 256 ^ 3 := by
  cases o with
  | none => exact Nat.pow_pos (by decide)
  | some w => exact (f w).isLt.trans (by decide)

theorem TraceConfig.laidOut_bytes {c : TraceConfig} (hpost : c.post ≤ 512) : c.LaidOut c.bytes where
  mode := rfl
  dirs := rfl
  kinds := rfl
  outcomes := (leNat_leBytes 2 _).trans (Nat.mod_eq_of_lt (c.outcomes.isLt.trans (by decide)))
  flags := rfl
  source := rfl
  reserved7 := rfl
  post := (leNat_leBytes 2 _).trans (Nat.mod_eq_of_lt (by omega))
  first := (leNat_leBytes 3 _).trans (Nat.mod_eq_of_lt (windowField_lt c.window Prod.fst))
  reserved13 := rfl
  last := (leNat_leBytes 3 _).trans (Nat.mod_eq_of_lt (windowField_lt c.window Prod.snd))
  reserved17 := rfl

theorem TraceConfig.LaidOut.eq_bytes {c : TraceConfig} {p : List Byte} (h : c.LaidOut p) (hp : p.length = 18) :
    p = c.bytes := by
  rw [eq_traceConfigure_fields hp, h.mode, h.dirs, h.kinds, h.outcomes, h.flags, h.source, h.reserved7, h.post, h.first,
    h.reserved13, h.last, h.reserved17]
  rfl

/-- The window that the bytes hold: with its bit off both fields are zero, with it on they are two line numbers in
order (R144). -/
theorem triggerWindowArg_eq_some_iff {p : List Byte} {o : Option (LineNumber × LineNumber)} :
    triggerWindowArg p = some o ↔
      (∀ w ∈ o, w.1 ≤ w.2) ∧ (byteAt p 5).getLsbD 1 = o.isSome ∧
        field p 10 3 = (o.map fun w => w.1.toNat).getD 0 ∧ field p 14 3 = (o.map fun w => w.2.toNat).getD 0 := by
  unfold triggerWindowArg
  cases o with
  | none => split <;> simp_all
  | some w =>
    obtain ⟨first, last⟩ := w
    have hlast := last.isLt
    split
    case isFalse hbit => exact iff_of_false (by split <;> nofun) fun ⟨_, hon, _⟩ => hbit hon
    case isTrue hbit =>
      simp only [hbit, Option.map_some, Option.getD_some, Option.mem_some_iff, forall_eq', Option.isSome_some, true_and]
      constructor
      · intro h
        split at h
        case isTrue hfields =>
          obtain ⟨hle, hmax⟩ := hfields
          cases h
          simp only [BitVec.le_def, BitVec.toNat_ofNat]
          omega
        case isFalse => cases h
      · rintro ⟨hle, hf, hl⟩
        have hle' : first.toNat ≤ last.toNat := hle
        rw [hf, hl, if_pos ⟨hle', by omega⟩]
        simp

/-- Bytes that TRACE_CONFIGURE accepts hold the configuration it reads from them, which is valid. -/
theorem valid_and_laidOut_of_traceConfigArgs {p : List Byte} {c : TraceConfig} (h : traceConfigArgs p = some c) :
    c.valid ∧ c.LaidOut p := by
  unfold traceConfigArgs at h
  split at h
  case h_2 => cases h
  case h_1 mode source window hmode hsource hwindow =>
    split at h; · cases h
    split at h; · cases h
    split at h; · cases h
    split at h; · cases h
    next hbits hreserved hpost htrigger =>
      cases h
      obtain ⟨hstoppedNot, hsourceByte⟩ := triggerSourceArg_eq_some_iff.mp hsource
      obtain ⟨hordered, hwindowBit, hfirst, hlast⟩ := triggerWindowArg_eq_some_iff.mp hwindow
      simp only [not_or, not_lt, not_not] at hbits hreserved hpost
      obtain ⟨hdirs, hkinds, houtcomes, hflags⟩ := hbits
      obtain ⟨hzero7, hzero13, hzero17⟩ := hreserved
      obtain ⟨hnonzero, hmax⟩ := hpost
      have hfires : mode = .triggered → window ≠ none ∨ source ≠ none := fun hm =>
        not_and_or.mp fun hnone => htrigger ⟨hm, hnone⟩
      exact ⟨⟨Nat.pos_of_ne_zero hnonzero, hmax, hstoppedNot, hordered, hfires⟩,
        { mode := CaptureMode.ofCode_eq_some_iff.mp hmode
          dirs := eq_flagBits_pair_iff.mpr ⟨hdirs, rfl, rfl⟩
          kinds := eq_flagBits_pair_iff.mpr ⟨hkinds, rfl, rfl⟩
          outcomes := (Nat.mod_eq_of_lt (Nat.lt_succ_of_le houtcomes)).symm
          flags := eq_flagBits_pair_iff.mpr ⟨hflags, rfl, hwindowBit⟩
          source := hsourceByte, reserved7 := hzero7, post := rfl, first := hfirst, reserved13 := hzero13
          last := hlast, reserved17 := hzero17 }⟩

/-- TRACE_CONFIGURE reads a valid configuration from the bytes that hold it. -/
theorem TraceConfig.LaidOut.traceConfigArgs_eq {p : List Byte} {c : TraceConfig} (h : c.LaidOut p) (hc : c.valid) :
    traceConfigArgs p = some c := by
  obtain ⟨hpos, hmax, hsource, hordered, hfires⟩ := hc
  obtain ⟨hdirs, hread, hwrite⟩ := eq_flagBits_pair_iff.mp h.dirs
  obtain ⟨hkinds, hfetch, hdata⟩ := eq_flagBits_pair_iff.mp h.kinds
  obtain ⟨hflags, hmarkers, hwindowBit⟩ := eq_flagBits_pair_iff.mp h.flags
  have hbits :
      ¬ (3 < (byteAt p 1).toNat ∨ 3 < (byteAt p 2).toNat ∨ 0x3FF < field p 3 2 ∨ 3 < (byteAt p 5).toNat) := by
    have houtcomes := c.outcomes.isLt
    rw [h.outcomes]
    omega
  have hreserved : ¬ (byteAt p 7 ≠ 0 ∨ byteAt p 13 ≠ 0 ∨ byteAt p 17 ≠ 0) := by
    simp [h.reserved7, h.reserved13, h.reserved17]
  have hpost : ¬ (field p 8 2 = 0 ∨ 512 < field p 8 2) := by
    rw [h.post]
    omega
  have htrigger : ¬ (c.mode = .triggered ∧ c.window = none ∧ c.source = none) := fun ⟨hm, hw, hs⟩ =>
    (hfires hm).elim (· hw) (· hs)
  rw [traceConfigArgs, CaptureMode.ofCode_eq_some_iff.mpr h.mode,
    triggerSourceArg_eq_some_iff.mpr ⟨hsource, h.source⟩,
    triggerWindowArg_eq_some_iff.mpr ⟨hordered, hwindowBit, h.first, h.last⟩]
  dsimp only
  rw [if_neg hbits, if_neg hreserved, if_neg hpost, if_neg htrigger, hread, hwrite, hfetch, hdata, hmarkers,
    h.outcomes, h.post, BitVec.ofNat_toNat, BitVec.setWidth_eq]

theorem traceConfigArgs_bytes {c : TraceConfig} (hc : c.valid) : traceConfigArgs c.bytes = some c :=
  have ⟨_, hpost, _⟩ := hc
  (TraceConfig.laidOut_bytes hpost).traceConfigArgs_eq hc

/-- Eighteen bytes that are those of no valid configuration are refused. -/
theorem traceConfigArgs_eq_none {p : List Byte} (hp : p.length = 18) (h : ∀ c : TraceConfig, c.valid → p ≠ c.bytes) :
    traceConfigArgs p = none := by
  refine Option.eq_none_iff_forall_ne_some.mpr fun c hc => ?_
  obtain ⟨hvalid, hlaid⟩ := valid_and_laidOut_of_traceConfigArgs hc
  exact h c hvalid (hlaid.eq_bytes hp)

/-! ### TRACE_CONFIGURE (R144) -/

theorem exec_traceConfigure_eq_ended {s t : State} {tag : Byte} {p : List Byte} {rest : List QueuedCommand}
    {r : ResultCode} {q : List Byte} (h : s.offers 0x60 tag p rest) (hp : p.length = 18)
    (hb : (s.taken rest).runTraceConfigure p = (t.taken rest, r, q)) :
    exec .traceConfigure s = .next (t.ended rest tag r q) :=
  congrArg _ (State.runReply_eq_ended h (by rw [hp]; rfl) hb)

theorem State.runTraceConfigure_of_some {p : List Byte} {s : State} {c : TraceConfig} (hs : s.trace.atRest = true)
    (hc : traceConfigArgs p = some c) :
    s.runTraceConfigure p = ({ s with trace := { s.trace with config := c } }, .ok, []) := by
  simp [State.runTraceConfigure, hs, hc]

theorem State.runTraceConfigure_of_none {p : List Byte} {s : State} (hs : s.trace.atRest = true)
    (hc : traceConfigArgs p = none) : s.runTraceConfigure p = (s, .badArgument, []) := by
  simp [State.runTraceConfigure, hs, hc]

theorem State.runTraceConfigure_of_capture {p : List Byte} {s : State} (hs : ¬ s.trace.atRest = true) :
    s.runTraceConfigure p = (s, .busyState, []) := if_neg hs

/-! ### TRACE_START (R145) -/

theorem exec_traceStart_eq_ended {s t : State} {tag : Byte} {rest : List QueuedCommand} {r : ResultCode}
    {q : List Byte} (h : s.offers 0x61 tag [] rest) (hb : (s.taken rest).runTraceStart [] = (t.taken rest, r, q)) :
    exec .traceStart s = .next (t.ended rest tag r q) :=
  congrArg _ (State.runReply_eq_ended h rfl hb)

theorem State.runTraceStart_of_atRest {p : List Byte} {s : State} {new : CaptureState} (hs : s.trace.atRest = true)
    (hnew : new = if s.trace.config.mode = .triggered then .armed else .capturing) :
    s.runTraceStart p =
      ({ s with trace := { s.trace with
          state := new, cause := .none, triggerSeq := none, postRemaining := s.trace.config.post } },
        .ok, [new.code] ++ leBytes 2 s.trace.records.length) := by
  subst hnew
  exact if_pos hs

theorem State.runTraceStart_of_capture {p : List Byte} {s : State} (hs : ¬ s.trace.atRest = true) :
    s.runTraceStart p = (s, .busyState, []) := if_neg hs

/-- Settles O46: each command by the test of the capture state; in OFF and STOPPED the bytes of TRACE_CONFIGURE are read
back as the one configuration they are the bytes of, or as none. -/
theorem traceConfigureAndStart : Obligations.TraceConfigureAndStart := by
  refine ⟨fun s tag p rest h hp => ⟨fun hs => ⟨fun c hc hpc => ?configured, fun hnone => ?refused⟩,
    fun hoff hstopped => ?busyConfigure⟩,
    fun s tag rest h => ⟨fun hs new hnew => ?started, fun hoff hstopped => ?busyStart⟩⟩
  case configured =>
    exact exec_traceConfigure_eq_ended h hp
      (State.runTraceConfigure_of_some (TraceUnit.atRest_iff.mpr hs) (hpc ▸ traceConfigArgs_bytes hc))
  case refused =>
    exact exec_traceConfigure_eq_ended h hp
      (State.runTraceConfigure_of_none (TraceUnit.atRest_iff.mpr hs) (traceConfigArgs_eq_none hp hnone))
  case busyConfigure =>
    exact exec_traceConfigure_eq_ended h hp (State.runTraceConfigure_of_capture (TraceUnit.not_atRest hoff hstopped))
  case started =>
    exact exec_traceStart_eq_ended h (State.runTraceStart_of_atRest (TraceUnit.atRest_iff.mpr hs) hnew)
  case busyStart =>
    exact exec_traceStart_eq_ended h (State.runTraceStart_of_capture (TraceUnit.not_atRest hoff hstopped))

/-! ### TRACE_STOP (R146) -/

theorem exec_traceStop_eq_ended {s t : State} {tag : Byte} {rest : List QueuedCommand} {r : ResultCode}
    {q : List Byte} (h : s.offers 0x62 tag [] rest) (hb : (s.taken rest).runTraceStop [] = (t.taken rest, r, q)) :
    exec .traceStop s = .next (t.ended rest tag r q) :=
  congrArg _ (State.runReply_eq_ended h rfl hb)

theorem State.runTraceStop_of_capture {p : List Byte} {s : State} (hs : ¬ s.trace.atRest = true) :
    s.runTraceStop p =
      ({ s with trace := { s.trace with state := .stopped } }, .ok,
        [s.trace.state.code, CaptureState.stopped.code]) := by
  simp [State.runTraceStop, hs]

theorem State.runTraceStop_of_atRest {p : List Byte} {s : State} (hs : s.trace.atRest = true) :
    s.runTraceStop p = (s, .ok, [s.trace.state.code, s.trace.state.code]) := by
  simp [State.runTraceStop, hs]

/-! ### TRACE_READ (R147) -/

theorem exec_traceRead_eq_ended {s t : State} {tag n : Byte} {rest : List QueuedCommand} {r : ResultCode}
    {q : List Byte} (h : s.offers 0x63 tag [n] rest) (hb : (s.taken rest).runTraceRead [n] = (t.taken rest, r, q)) :
    exec .traceRead s = .next (t.ended rest tag r q) :=
  congrArg _ (State.runReply_eq_ended h rfl hb)

theorem State.runTraceRead_of_bad {n : Byte} {s : State} (hn : n = 0 ∨ 3 < n.toNat) :
    s.runTraceRead [n] = (s, .badArgument, []) := by
  have hrange : ¬ (1 ≤ n.toNat ∧ n.toNat ≤ 3) := by
    obtain rfl | hn := hn
    · decide
    · omega
  exact if_neg hrange

/-- A read of up to three records takes the head of the buffer, cut where the count or the buffer ends. -/
theorem State.runTraceRead_of_split {n : Byte} {s : State} {out left : List TraceRecord} (hpos : 1 ≤ n.toNat)
    (hle : n.toNat ≤ 3) (hsplit : s.trace.records = out ++ left)
    (hlen : out.length = min n.toNat s.trace.records.length) :
    s.runTraceRead [n] =
      ({ s with trace := { s.trace with records := left } }, .ok,
        [BitVec.ofNat 8 out.length] ++ out.flatMap TraceRecord.bytes) := by
  have hcut : s.trace.records.take n.toNat = out ∧ s.trace.records.drop n.toNat = left := by
    refine List.append_inj ((List.take_append_drop _ _).trans hsplit) ?_
    rw [List.length_take, hlen]
  obtain ⟨hout, hleft⟩ := hcut
  simp [State.runTraceRead, hpos, hle, hout, hleft]

/-- Both kinds of record have sixteen bytes (R179). -/
theorem TraceRecord.bytes_length (r : TraceRecord) : r.bytes.length = 16 := by
  obtain ⟨seq, report | marker⟩ := r
  · simp [TraceRecord.bytes, accessBytes, wordBytes]
  · simp [TraceRecord.bytes, markerBytes, wordBytes]

/-! ### TRACE_CLEAR (R148) -/

theorem exec_traceClear_eq_ended {s t : State} {tag : Byte} {rest : List QueuedCommand} {r : ResultCode}
    {q : List Byte} (h : s.offers 0x64 tag [] rest) (hb : (s.taken rest).runTraceClear [] = (t.taken rest, r, q)) :
    exec .traceClear s = .next (t.ended rest tag r q) :=
  congrArg _ (State.runReply_eq_ended h rfl hb)

/-- Settles O47: TRACE_STOP by the capture state, TRACE_READ by the range of its count, TRACE_CLEAR in every state. -/
theorem traceStopReadClear : Obligations.TraceStopReadClear := by
  refine ⟨fun s tag rest h => ⟨fun hs => ?stops, fun hs => ?stays⟩,
    fun s tag n rest h => ⟨fun hn => ?refused, fun hpos hle out left hsplit hlen => ?reads⟩,
    TraceRecord.bytes_length, fun s tag rest h => ?clears⟩
  case stops =>
    have hcapture : ¬ s.trace.atRest = true := by
      rw [TraceUnit.atRest_iff]
      obtain hs | hs | hs := hs <;> simp [hs]
    exact exec_traceStop_eq_ended h (State.runTraceStop_of_capture hcapture)
  case stays => exact exec_traceStop_eq_ended h (State.runTraceStop_of_atRest (TraceUnit.atRest_iff.mpr hs))
  case refused => exact exec_traceRead_eq_ended h (State.runTraceRead_of_bad hn)
  case reads => exact exec_traceRead_eq_ended h (State.runTraceRead_of_split hpos hle hsplit hlen)
  case clears => exact exec_traceClear_eq_ended h rfl

end Sys2Proof.Machine
end

section
/-! PROOF. The event unit (chapter 10): ALERTn and the event commands. -/

namespace Sys2Proof.Machine

open Sys2Proof

/-! ### The executor -/

/-- A row of the table whose owning rule leaves `t`, but for the command taken from the queue, ends in `t`. -/
theorem exec_eq_ended {c : Instr} {s t : State} {code tag : Byte} {p : List Byte} {rest : List QueuedCommand}
    {r : ResultCode} {q : List Byte} {body : List Byte → State → Reply}
    (harm : exec c s = .next (s.runReply code body)) (h : s.offers code tag p rest)
    (hp : payloadFits code p.length = true) (hb : body p (s.taken rest) = (t.taken rest, r, q)) :
    exec c s = .next (t.ended rest tag r q) :=
  harm.trans (congrArg _ (State.runReply_eq_ended h hp hb))

/-! ### Levels in service (R153) -/

/-- The highest in-service level is below a positive level exactly when every level in service is. -/
theorem EventUnit.highest_lt_iff {e : EventUnit} {n : Nat} (hn : 0 < n) :
    e.highest < n ↔ ∀ l ∈ e.inService, l < n := by
  unfold EventUnit.highest
  induction e.inService with
  | nil => simpa using hn
  | cons l ls ih => simp [ih]

/-- Levels in service fall strictly, so the highest is the latest taken; 0 when there is none. -/
theorem EventUnit.fits.highest_eq {e : EventUnit} (h : e.fits) : e.highest = e.inService.headD 0 := by
  obtain ⟨-, -, hfall, -⟩ := h
  cases hin : e.inService with
  | nil => simp [EventUnit.highest, hin]
  | cons l ls =>
    rw [hin, List.pairwise_cons] at hfall
    obtain ⟨hbelow, -⟩ := hfall
    have hle : e.highest < l + 1 := (EventUnit.highest_lt_iff l.succ_pos).mpr fun m hm => by
      rw [hin, List.mem_cons] at hm
      obtain rfl | hm := hm
      · exact m.lt_succ_self
      · exact Nat.lt_succ_of_lt (hbelow m hm)
    have hge : l ≤ e.highest := by simp [EventUnit.highest, hin]
    exact Nat.le_antisymm (Nat.le_of_lt_succ hle) hge

/-- The levels left in service once the latest is finished still fit. -/
theorem EventUnit.fits.finished {e : EventUnit} {l : Nat} {ls : List Nat} (h : e.fits) (hin : e.inService = l :: ls) :
    EventUnit.fits { e with inService := ls } := by
  obtain ⟨hfixed, hprogrammable, hfall, hbounds⟩ := h
  rw [hin] at hfall hbounds
  exact ⟨hfixed, hprogrammable, hfall.of_cons, fun m hm => hbounds m (List.mem_cons_of_mem l hm)⟩

/-! ### Eligible sources and ALERTn (R153, R154) -/

theorem EventUnit.fits.level_pos {e : EventUnit} (h : e.fits) (i : Fin 14) : 0 < e.sources[i].level := by
  obtain ⟨hfixed, hprogrammable, -, -⟩ := h
  obtain hi | hi := Nat.lt_or_ge i.val 12
  · exact (hprogrammable i hi).1
  · rw [(hfixed i hi).2]; decide

theorem EventUnit.fits.eligible_iff {e : EventUnit} (h : e.fits) (i : Fin 14) :
    e.eligible i = true ↔ e.sources[i].enable = true ∧ e.sources[i].pending = true ∧
      ∀ l ∈ e.inService, l < e.sources[i].level := by
  rw [EventUnit.eligible, Bool.and_eq_true, Bool.and_eq_true, decide_eq_true_iff,
    EventUnit.highest_lt_iff (h.level_pos i), and_assoc]

theorem State.alertLow_iff {s : State} : s.alertLow = true ↔ s.inReset = false ∧ ∃ i, s.events.eligible i = true := by
  simp [State.alertLow]

/-! ### The source that TAKE_EVENT chooses (R155) -/

/-- Source `i` goes before source `j`: of higher level, or of the same level and no higher number. -/
def EventUnit.precedes (e : EventUnit) (i j : Fin 14) : Prop :=
  e.sources[j].level < e.sources[i].level ∨ (e.sources[j].level = e.sources[i].level ∧ i ≤ j)

theorem EventUnit.precedes_refl (e : EventUnit) (i : Fin 14) : e.precedes i i := .inr ⟨rfl, le_rfl⟩

theorem EventUnit.precedes.trans {e : EventUnit} {i j k : Fin 14} (hij : e.precedes i j) (hjk : e.precedes j k) :
    e.precedes i k := by
  unfold EventUnit.precedes at *
  omega

theorem EventUnit.precedes.antisymm {e : EventUnit} {i j : Fin 14} (hij : e.precedes i j) (hji : e.precedes j i) :
    i = j := by
  unfold EventUnit.precedes at *
  omega

/-- The choice among the sources of a list: the eligible one that goes before all others, none when none is eligible. -/
def EventUnit.IsChoice (e : EventUnit) (is : List (Fin 14)) : Option (Fin 14) → Prop
  | none => ∀ j ∈ is, e.eligible j = false
  | some i => i ∈ is ∧ e.eligible i = true ∧ ∀ j ∈ is, e.eligible j = true → e.precedes i j

/-- One step of the scan that TAKE_EVENT makes over the sources. -/
def EventUnit.consider (e : EventUnit) (best : Option (Fin 14)) (i : Fin 14) : Option (Fin 14) :=
  if e.eligible i then
    match best with
    | none => some i
    | some j => if e.sources[j].level < e.sources[i].level then some i else some j
  else best

theorem EventUnit.choose_eq_foldl (e : EventUnit) : e.choose = (List.finRange 14).foldl e.consider none := rfl

theorem EventUnit.consider_of_not_eligible {e : EventUnit} {i : Fin 14} (h : e.eligible i = false)
    (best : Option (Fin 14)) : e.consider best i = best := by
  simp [EventUnit.consider, h]

theorem EventUnit.consider_none {e : EventUnit} {i : Fin 14} (h : e.eligible i = true) :
    e.consider none i = some i := by
  simp [EventUnit.consider, h]

theorem EventUnit.consider_some {e : EventUnit} {i : Fin 14} (h : e.eligible i = true) (j : Fin 14) :
    e.consider (some j) i = if e.sources[j].level < e.sources[i].level then some i else some j := by
  simp [EventUnit.consider, h]

/-- An ineligible source makes no difference to the choice. -/
theorem EventUnit.IsChoice.append_ineligible {e : EventUnit} {is : List (Fin 14)} {best : Option (Fin 14)} {i : Fin 14}
    (h : e.IsChoice is best) (hi : e.eligible i = false) : e.IsChoice (is ++ [i]) best := by
  cases best with
  | none => exact fun j hj => (List.mem_append.mp hj).elim (h j) fun hj => List.mem_singleton.mp hj ▸ hi
  | some k =>
    obtain ⟨hmem, hel, hbest⟩ := h
    refine ⟨List.mem_append_left _ hmem, hel, fun j hj hjel => ?_⟩
    obtain hj | hj := List.mem_append.mp hj
    · exact hbest j hj hjel
    · rw [List.mem_singleton.mp hj, hi] at hjel
      cases hjel

/-- An eligible source that goes before every eligible one of the list is the choice once it is added. -/
theorem EventUnit.isChoice_append_self {e : EventUnit} {is : List (Fin 14)} {i : Fin 14} (hi : e.eligible i = true)
    (h : ∀ j ∈ is, e.eligible j = true → e.precedes i j) : e.IsChoice (is ++ [i]) (some i) := by
  refine ⟨by simp, hi, fun j hj hjel => ?_⟩
  obtain hj | hj := List.mem_append.mp hj
  · exact h j hj hjel
  · exact List.mem_singleton.mp hj ▸ e.precedes_refl i

/-- The step keeps the choice: the next source has a higher number, so it wins by a higher level alone. -/
theorem EventUnit.IsChoice.consider {e : EventUnit} {is : List (Fin 14)} {best : Option (Fin 14)} {i : Fin 14}
    (h : e.IsChoice is best) (hlast : ∀ j ∈ is, j < i) : e.IsChoice (is ++ [i]) (e.consider best i) := by
  cases hi : e.eligible i with
  | false => exact (EventUnit.consider_of_not_eligible hi best).symm ▸ h.append_ineligible hi
  | true =>
    cases best with
    | none =>
      rw [EventUnit.consider_none hi]
      exact EventUnit.isChoice_append_self hi fun j hj hjel => absurd hjel (by simp [h j hj])
    | some k =>
      obtain ⟨hmem, hel, hbest⟩ := h
      rw [EventUnit.consider_some hi]
      split
      case isTrue hlt =>
        exact EventUnit.isChoice_append_self hi fun j hj hjel => .trans (.inl hlt) (hbest j hj hjel)
      case isFalse hge =>
        have hki : e.precedes k i :=
          (Nat.lt_or_eq_of_le (Nat.le_of_not_lt hge)).imp_right fun heq => ⟨heq, (hlast k hmem).le⟩
        refine ⟨List.mem_append_left _ hmem, hel, fun j hj hjel => ?_⟩
        obtain hj | hj := List.mem_append.mp hj
        · exact hbest j hj hjel
        · exact List.mem_singleton.mp hj ▸ hki

theorem EventUnit.isChoice_foldl (e : EventUnit) (is : List (Fin 14)) (h : is.Pairwise (· < ·)) :
    e.IsChoice is (is.foldl e.consider none) := by
  induction is using List.reverseRecOn with
  | nil => exact fun j hj => nomatch hj
  | append_singleton is i ih =>
    obtain ⟨hinit, -, hlast⟩ := List.pairwise_append.mp h
    rw [List.foldl_append]
    exact (ih hinit).consider fun j hj => hlast j hj i (List.mem_singleton_self i)

theorem EventUnit.choose_isChoice (e : EventUnit) : e.IsChoice (List.finRange 14) e.choose :=
  e.choose_eq_foldl ▸ e.isChoice_foldl _ (List.pairwise_lt_finRange 14)

theorem EventUnit.choose_eq_none {e : EventUnit} (h : ∀ i, ¬ e.eligible i = true) : e.choose = none := by
  have hchoice := e.choose_isChoice
  cases hc : e.choose with
  | none => rfl
  | some i =>
    rw [hc] at hchoice
    obtain ⟨-, hi, -⟩ := hchoice
    exact absurd hi (h i)

theorem EventUnit.choose_eq_some {e : EventUnit} {i : Fin 14} (hi : e.eligible i = true)
    (h : ∀ j, e.eligible j = true → e.precedes i j) : e.choose = some i := by
  have hchoice := e.choose_isChoice
  cases hc : e.choose with
  | none =>
    rw [hc] at hchoice
    simp [hchoice i (List.mem_finRange i)] at hi
  | some k =>
    rw [hc] at hchoice
    obtain ⟨-, hk, hbest⟩ := hchoice
    rw [(hbest i (List.mem_finRange i) hi).antisymm (h k hk)]

/-! ### TAKE_EVENT (R155) -/

theorem EventUnit.taken_pendingCount (e : EventUnit) (i : Fin 14) :
    (e.taken i).pendingCount = (List.finRange 14).countP fun j => j != i && e.sources[j].pending := by
  refine List.countP_congr fun j _ => ?_
  by_cases hj : j = i
  · simp [EventUnit.taken, EventUnit.setSource, hj]
  · have hval : i.val ≠ j.val := fun hij => hj (Fin.ext hij.symm)
    simp [EventUnit.taken, EventUnit.setSource, hj, Vector.getElem_set_ne _ _ hval]

theorem State.runTakeEvent_of_none {p : List Byte} {s : State} (h : s.events.choose = none) :
    s.runTakeEvent p =
      (s, .noEvent, [BitVec.ofNat 8 s.events.highest, BitVec.ofNat 8 s.events.pendingCount]) := by
  simp [State.runTakeEvent, h]

theorem State.runTakeEvent_of_some {p : List Byte} {s : State} {i : Fin 14} (h : s.events.choose = some i) :
    s.runTakeEvent p =
      ({ s with events := s.events.taken i }, .ok,
        [BitVec.ofNat 8 (i.val + 1), BitVec.ofNat 8 s.events.sources[i].level, s.events.sources[i].count,
          BitVec.ofNat 8 (s.events.taken i).pendingCount] ++ wordBytes s.events.sources[i].detail) := by
  simp [State.runTakeEvent, h]

/-! ### FINISH_EVENT (R156) -/

theorem State.runFinishEvent_of_nil {p : List Byte} {s : State} (h : s.events.inService = []) :
    s.runFinishEvent p = (s, .notInService, []) := by
  simp [State.runFinishEvent, h]

theorem State.runFinishEvent_of_cons {p : List Byte} {s : State} {l : Nat} {ls : List Nat} (hfits : s.events.fits)
    (h : s.events.inService = l :: ls) :
    s.runFinishEvent p =
      ({ s with events := { s.events with inService := ls } }, .ok,
        [BitVec.ofNat 8 l, BitVec.ofNat 8 (ls.headD 0)]) := by
  have htop : s.events.highest = l := by rw [hfits.highest_eq, h]; rfl
  have hnext : EventUnit.highest { s.events with inService := ls } = ls.headD 0 := (hfits.finished h).highest_eq
  have hleft : (l :: ls).filter (fun m => m != l) = ls := by
    obtain ⟨-, -, hfall, -⟩ := hfits
    rw [h, List.pairwise_cons] at hfall
    obtain ⟨hbelow, -⟩ := hfall
    rw [List.filter_cons_of_neg (by simp), List.filter_eq_self]
    exact fun m hm => by simpa using (hbelow m hm).ne
  simp [State.runFinishEvent, h, htop, hleft, hnext]

/-- Settles O49: the hypothesis on `eligible` is the model's test of eligibility; TAKE_EVENT by the outcome of its scan,
FINISH_EVENT by the list of levels in service. -/
theorem takeAndFinishEvents : Obligations.TakeAndFinishEvents := by
  intro s eligible hfits heligible
  have hiff (i : Fin 14) : s.events.eligible i = true ↔ eligible i := (hfits.eligible_iff i).trans (heligible i).symm
  refine ⟨?alert, fun tag rest h => ⟨fun hnone => ?nothing, fun i x hi hx hbest => ?takes⟩,
    fun tag rest h => ⟨fun hin => ?idle, fun l ls hin => ?finishes⟩⟩
  case alert => simp only [State.alertLow_iff, hiff]
  case nothing =>
    have hchoose : s.events.choose = none := EventUnit.choose_eq_none fun i hi => hnone i ((hiff i).mp hi)
    rw [← hfits.highest_eq]
    exact exec_eq_ended rfl h rfl (State.runTakeEvent_of_none hchoose)
  case takes =>
    subst hx
    have hchoose : s.events.choose = some i :=
      EventUnit.choose_eq_some ((hiff i).mpr hi) fun j hj => hbest j ((hiff j).mp hj)
    rw [← EventUnit.taken_pendingCount]
    exact exec_eq_ended rfl h rfl (State.runTakeEvent_of_some hchoose)
  case idle => exact exec_eq_ended rfl h rfl (State.runFinishEvent_of_nil hin)
  case finishes => exact exec_eq_ended rfl h rfl (State.runFinishEvent_of_cons hfits hin)

/-! ### EVENT_CONFIG (R157) -/

theorem flagArg_flagByte (b : Bool) : flagArg (flagByte b) = some b := by cases b <;> rfl

theorem flagArg_of_gt {b : Byte} (h : 1 < b.toNat) : flagArg b = none := by
  have h0 : b ≠ 0 := by rintro rfl; exact absurd h (by decide)
  have h1 : b ≠ 1 := by rintro rfl; exact absurd h (by decide)
  rw [flagArg, if_neg h0, if_neg h1]

theorem eventConfigArgs_of_flag {p : List Byte} (h : 1 < (byteAt p 1).toNat) : eventConfigArgs p = none := by
  simp [eventConfigArgs, flagArg_of_gt h]

/-- A source number that is no programmable source's is refused, whatever the other bytes. -/
theorem eventConfigArgs_of_source {p : List Byte} (h : ¬ (1 ≤ (byteAt p 0).toNat ∧ (byteAt p 0).toNat ≤ 12)) :
    eventConfigArgs p = none := by
  unfold eventConfigArgs
  cases flagArg (byteAt p 1) with
  | none => rfl
  | some enable => exact dif_neg h

/-- A level out of 1 to 3 is refused, whatever the other bytes. -/
theorem eventConfigArgs_of_level {p : List Byte} (h : ¬ (1 ≤ (byteAt p 2).toNat ∧ (byteAt p 2).toNat ≤ 3)) :
    eventConfigArgs p = none := by
  unfold eventConfigArgs
  cases flagArg (byteAt p 1) with
  | none => rfl
  | some enable => simp only [if_neg h, dite_eq_ite, ite_self]

theorem eventConfigArgs_eq_none {p : List Byte}
    (h : byteAt p 0 = 0 ∨ 12 < (byteAt p 0).toNat ∨ 1 < (byteAt p 1).toNat ∨ byteAt p 2 = 0 ∨
      3 < (byteAt p 2).toNat) : eventConfigArgs p = none := by
  obtain hsrc | hsrc | hflag | hlevel | hlevel := h
  · exact eventConfigArgs_of_source (by simp [hsrc])
  · exact eventConfigArgs_of_source (by omega)
  · exact eventConfigArgs_of_flag hflag
  · exact eventConfigArgs_of_level (by simp [hlevel])
  · exact eventConfigArgs_of_level (by omega)

/-- The bytes of a programmable source, an enable and a level of 1 to 3 are read back. -/
theorem eventConfigArgs_eq_some {i : Fin 14} {enable : Bool} {level : Nat} (hi : i.val < 12) (hpos : 1 ≤ level)
    (hle : level ≤ 3) :
    eventConfigArgs [BitVec.ofNat 8 (i.val + 1), flagByte enable, BitVec.ofNat 8 level] = some (i, enable, level) := by
  have hsrc : (BitVec.ofNat 8 (i.val + 1)).toNat = i.val + 1 := by
    rw [BitVec.toNat_ofNat, Nat.mod_eq_of_lt (by omega)]
  have hlevel : (BitVec.ofNat 8 level).toNat = level := by
    rw [BitVec.toNat_ofNat, Nat.mod_eq_of_lt (by omega)]
  have hsrcRange : i.val + 1 ≤ 12 := hi
  simp [eventConfigArgs, byteAt, flagArg_flagByte, hsrc, hlevel, hsrcRange, hpos, hle]

theorem State.runEventConfig_of_none {p : List Byte} {s : State} (h : eventConfigArgs p = none) :
    s.runEventConfig p = (s, .badArgument, []) := by
  simp [State.runEventConfig, h]

theorem State.runEventConfig_of_some {p : List Byte} {s : State} {i : Fin 14} {enable : Bool} {level : Nat}
    (h : eventConfigArgs p = some (i, enable, level)) :
    s.runEventConfig p =
      ({ s with events :=
          s.events.setSource i { s.events.sources[i] with enable := enable, level := level } }, .ok,
        [BitVec.ofNat 8 (i.val + 1), flagByte s.events.sources[i].enable, BitVec.ofNat 8 s.events.sources[i].level,
          flagByte enable, BitVec.ofNat 8 level]) := by
  simp [State.runEventConfig, h]

/-! ### RAISE_EVENT (R152, R158) -/

theorem satCount_eq_min (c : BitVec 8) : satCount c = BitVec.ofNat 8 (min 255 (c.toNat + 1)) := by
  unfold satCount
  split
  case isTrue hfull => subst hfull; rfl
  case isFalse hroom =>
    have hne : c.toNat ≠ 255 := fun h => hroom (BitVec.eq_of_toNat_eq h)
    rw [Nat.min_eq_right (by omega), BitVec.ofNat_add, BitVec.ofNat_toNat, BitVec.setWidth_eq]
    rfl

theorem SourceState.raised_eq_min (x : SourceState) (d : Word) :
    x.raised d = { x with pending := true, count := BitVec.ofNat 8 (min 255 (x.count.toNat + 1)), detail := d } := by
  rw [SourceState.raised, satCount_eq_min]

theorem State.runRaiseEvent_eq (p : List Byte) (s : State) :
    s.runRaiseEvent p =
      (s.raise .software (BitVec.ofNat 32 (field p 0 4)), .ok,
        [(s.events.sources[EventSource.software.index].raised (BitVec.ofNat 32 (field p 0 4))).count]) := by
  rw [State.runRaiseEvent, State.raise_events, EventUnit.raise_source]

/-- Settles O50: EVENT_CONFIG by what its bytes are read as, RAISE_EVENT as the raise of SOFTWARE with its notice to the
trace unit. -/
theorem configureAndRaiseEvents : Obligations.ConfigureAndRaiseEvents := by
  refine ⟨fun s tag p rest h hp => ⟨fun hbad => ?refused, fun i enable level x hi hpos hle hbytes hx => ?configured⟩,
    fun s tag p rest x y h hp hx hy => ?raised⟩
  case refused =>
    exact exec_eq_ended rfl h (by rw [hp]; rfl) (State.runEventConfig_of_none (eventConfigArgs_eq_none hbad))
  case configured =>
    subst hx
    have hargs : eventConfigArgs p = some (i, enable, level) := hbytes ▸ eventConfigArgs_eq_some hi hpos hle
    exact exec_eq_ended rfl h (by rw [hp]; rfl) (State.runEventConfig_of_some hargs)
  case raised =>
    rw [← SourceState.raised_eq_min] at hy
    subst hx hy
    exact exec_eq_ended rfl h (by rw [hp]; rfl) (State.runRaiseEvent_eq p (s.taken rest))

end Sys2Proof.Machine
end

section
/-! PROOF. The service port (chapter 11): ECHO. -/

namespace Sys2Proof.Machine

open Sys2Proof

/-! ### ECHO (R172) -/

/-- No payload length is refused for ECHO (R168, R172). -/
@[simp] theorem payloadFits_echo (n : Nat) : payloadFits 0x01 n = true := rfl

@[simp] theorem State.runEcho_eq (p : List Byte) (s : State) : s.runEcho p = (s, .ok, p) := rfl

/-- Settles O53: the rule of ECHO hands its payload back and leaves the state it is given, so the command only moves from
the queue to the responses. -/
theorem echoAnswersItsBytes : Obligations.EchoAnswersItsBytes := by
  intro s tag p rest h
  have harm : exec .echo s = .next (s.runReply 0x01 State.runEcho) := rfl
  exact exec_eq_ended harm h (payloadFits_echo p.length) (State.runEcho_eq p (s.taken rest))

end Sys2Proof.Machine
end

section
/-! PROOF. What the operations leave alone: the frame that every operation of the host bus, the sets, the loader and the
port keeps, and the part of the host bus that the sets, the loader and the verifier keep. -/

namespace Sys2Proof.Machine

open Sys2Proof

set_option Elab.async false

/-! ### Timers within their bounds (R65, R127) -/

/-- The deadline of a pending commit lies between `lo` steps and the gate timeout ahead. -/
def gateTimed (c : Option PendingCommit) (now : Word) (lo : Nat) : Prop :=
  ∀ pc ∈ c, ∀ d ∈ pc.deadline, lo ≤ (d - now).toNat ∧ (d - now).toNat ≤ 1000 * pc.args.timeout.toNat

/-- The access in progress has at least `lo` steps left before its ready timeout. -/
def MemPort.timed (p : MemPort) (lo : Nat) : Prop :=
  ∀ a ∈ p.access, a.timeout ≠ 0 → a.steps + lo ≤ a.timeout.toNat

theorem State.timersFit_iff {s : State} : s.timersFit ↔ s.port.timed 0 ∧ gateTimed s.scu.commit s.timeBase 0 := by
  simp [State.timersFit, MemPort.timed, gateTimed]

theorem gateTimed_none (now : Word) (lo : Nat) : gateTimed none now lo := fun _ h => nomatch h

/-- A deadline just set lies ahead, a gate timeout away. -/
theorem CommitArgs.deadline_timed (a : CommitArgs) (now : Word) (who : CommitRequester) (g : Bool) {lo : Nat} (hlo : lo ≤ 1) :
    gateTimed (some { args := a, deadline := a.deadline now, requester := who, gateOpen := g }) now lo := by
  intro pc hpc d hd
  cases hpc
  simp only [CommitArgs.deadline] at hd
  split at hd
  case isFalse => cases hd
  case isTrue h =>
    obtain ⟨-, ht⟩ := h
    cases hd
    have hpos : a.timeout.toNat ≠ 0 := fun h0 => ht (BitVec.eq_of_toNat_eq h0)
    have hlt := a.timeout.isLt
    have hd : (now + BitVec.ofNat 32 (gateSteps a.timeout) - now).toNat = a.timeout.toNat * 1000 := by
      rw [BitVec.add_comm, BitVec.add_sub_cancel, BitVec.toNat_ofNat, gateSteps, Nat.mod_eq_of_lt (by omega)]
    rw [hd]
    dsimp only
    omega

theorem MemPort.start_timed (p : MemPort) (now : Word) (who : Requester) (q : PortRequest) {lo : Nat} (hlo : lo ≤ 1) :
    (p.start now who q).timed lo := by
  intro a ha h0
  cases ha
  have : (p.timeoutOf q.ce).toNat ≠ 0 := fun h => h0 (BitVec.eq_of_toNat_eq h)
  dsimp only
  omega

theorem MemPort.timed.request {p : MemPort} {lo : Nat} (h : p.timed lo) (hlo : lo ≤ 1) (now : Word) (who : Requester)
    (q : PortRequest) : (p.request now who q).timed lo := by
  cases ha : p.access with
  | none => rw [(p.request_spec now who q).1 ha]; exact p.start_timed now who q hlo
  | some a =>
    intro b hb
    rw [((p.request_spec now who q).2 a ha).2] at hb
    exact h b (ha ▸ hb)

theorem MemPort.free_timed (p : MemPort) (now : Word) {lo : Nat} (hlo : lo ≤ 1) : (p.free now).timed lo := by
  obtain ⟨hhost, hloader, hverifier, hnone⟩ := p.free_spec now
  cases h1 : p.host with
  | some r => rw [hhost r h1]; exact MemPort.start_timed _ now _ r hlo
  | none =>
    cases h2 : p.loader with
    | some r => rw [hloader r h1 h2]; exact MemPort.start_timed _ now _ r hlo
    | none =>
      cases h3 : p.verifier with
      | some r => rw [hverifier r h1 h2 h3]; exact MemPort.start_timed _ now _ r hlo
      | none => rw [hnone h1 h2 h3]; exact fun a ha => nomatch ha

theorem MemPort.timed.giveUp {p : MemPort} {lo : Nat} (h : p.timed lo) (who : Requester) : (p.giveUp who).timed lo := by
  intro b hb
  obtain ⟨a, ha, rfl⟩ := Option.map_eq_some_iff.mp hb
  split <;> exact h a ha

/-! ### The frame -/

/-- What every operation behind a step keeps: pin reset, straps, time base, regions, service port and queue as they were,
trace, events and timers within their bounds. -/
structure State.Steady (s t : State) : Prop where
  inReset     : t.inReset = s.inReset
  straps      : t.straps = s.straps
  timeBase    : t.timeBase = s.timeBase
  regions     : t.regions = s.regions
  svp         : t.svp = s.svp
  pending     : t.pending = s.pending
  trace       : s.trace.fits → t.trace.fits
  events      : s.events.fits → t.events.fits
  gateTimer   : ∀ lo ≤ 1, gateTimed s.scu.commit s.timeBase lo → gateTimed t.scu.commit s.timeBase lo
  accessTimer : ∀ lo ≤ 1, s.port.timed lo → t.port.timed lo

@[refl] theorem State.Steady.refl (s : State) : s.Steady s :=
  ⟨rfl, rfl, rfl, rfl, rfl, rfl, id, id, fun _ _ => id, fun _ _ => id⟩

@[trans] theorem State.Steady.trans {s t u : State} (h : s.Steady t) (g : t.Steady u) : s.Steady u where
  inReset := g.inReset.trans h.inReset
  straps := g.straps.trans h.straps
  timeBase := g.timeBase.trans h.timeBase
  regions := g.regions.trans h.regions
  svp := g.svp.trans h.svp
  pending := g.pending.trans h.pending
  trace := g.trace ∘ h.trace
  events := g.events ∘ h.events
  gateTimer lo hlo := h.timeBase ▸ g.gateTimer lo hlo ∘ (h.timeBase.symm ▸ h.gateTimer lo hlo)
  accessTimer lo hlo := g.accessTimer lo hlo ∘ h.accessTimer lo hlo

/-- What the sets, the loader and the verifier keep of the host bus beside the frame: the transaction, the waiting request
and the strobes; a hold can be lifted but none comes. -/
structure State.OffBus (s t : State) : Prop extends State.Steady s t where
  hbi  : t.hbi = { s.hbi with held := t.hbi.held }
  held : t.hbi.held = true → s.hbi.held = true

theorem State.Steady.offBus {s t : State} (h : s.Steady t) (hb : t.hbi = s.hbi) : s.OffBus t where
  toSteady := h
  hbi := by rw [hb]
  held := by rw [hb]; exact id

@[refl] theorem State.OffBus.refl (s : State) : s.OffBus s := (State.Steady.refl s).offBus rfl

@[trans] theorem State.OffBus.trans {s t u : State} (h : s.OffBus t) (g : t.OffBus u) : s.OffBus u where
  toSteady := h.toSteady.trans g.toSteady
  hbi := by rw [g.hbi, h.hbi]
  held := h.held ∘ g.held

theorem State.OffBus.inFlight {s t : State} (h : s.OffBus t) : t.inFlight = s.inFlight := by
  rw [State.inFlight, h.hbi]; rfl

/-! ### Raises and records -/

theorem TraceUnit.fits.of_buffer {t u : TraceUnit} (h : t.fits) (hr : u.records = t.records) (hs : u.seq = t.seq) : u.fits := by
  rw [TraceUnit.fits, hr, hs]
  exact h

/-- An append keeps the numbers consecutive up to the counter (R139). -/
theorem TraceUnit.fits.append {t : TraceUnit} (h : t.fits) (b : TraceBody) : (t.append b).fits := by
  obtain ⟨hlen, hseq⟩ := h
  have hlen : t.records.length ≤ 512 := hlen
  rw [TraceUnit.append_eq b hlen]
  have step (n : Nat) (i : Nat) (hi : i < n) (x : BitVec 16) :
      x + 1 - BitVec.ofNat 16 (n + 1 - i) = x - BitVec.ofNat 16 (n - i) := by
    rw [show n + 1 - i = (n - i) + 1 by omega, BitVec.ofNat_add]
    exact add_sub_add_right_eq_sub x _ 1
  refine ⟨?_, ?_⟩
  · simp only [TraceUnit.appended, Config.traceCapacity, List.length_append, List.length_singleton]
    split
    · simp; omega
    · omega
  · have hget (i : Nat) (hi : i < t.records.length) :
        t.records[i].seq = t.seq - BitVec.ofNat 16 (t.records.length - i) := by
      have := congrArg (fun l => l[i]?) hseq
      simpa [hi] using this
    refine List.ext_getElem (by simp) fun i h1 h2 => ?_
    simp only [TraceUnit.appended] at h1 h2 ⊢
    split at h1
    case isTrue hfull =>
      simp only [hfull, if_true, List.getElem_map, List.getElem_range, List.length_append, List.length_drop,
        List.length_singleton] at h1 h2 ⊢
      by_cases hi : i < 511
      · rw [List.getElem_append_left (by simp [hfull]; omega), List.getElem_drop, hget _ (by omega), hfull]
        rw [show 512 - 1 + 1 - i = 511 + 1 - i by omega, step 511 i hi, show 512 - (1 + i) = 511 - i by omega]
      · simp at h2
        obtain rfl : i = 511 := by omega
        rw [List.getElem_append_right (by simp [hfull])]
        simp
    case isFalse hroom =>
      simp only [hroom, if_false, List.getElem_map, List.getElem_range, List.length_append,
        List.length_singleton] at h1 h2 ⊢
      by_cases hi : i < t.records.length
      · rw [List.getElem_append_left hi, hget i hi, step _ i hi]
      · simp at h2
        obtain rfl : i = t.records.length := by omega
        rw [List.getElem_append_right (by simp)]
        simp

theorem TraceUnit.fits.take {t : TraceUnit} (h : t.fits) (b : TraceBody) (f : Bool) : (t.take b f).1.fits := by
  obtain ⟨hr, hs⟩ | ⟨hr, hs⟩ := t.take_buffer b f
  · exact h.of_buffer hr hs
  · exact (h.append b).of_buffer hr hs

theorem TraceUnit.fits.notice {t : TraceUnit} (h : t.fits) (src : EventSource) : (t.notice src).fits :=
  h.of_buffer (t.notice_records src) (t.notice_seq src)

theorem EventUnit.fits.raise {e : EventUnit} (h : e.fits) (src : EventSource) (d : Word) : (e.raise src d).fits := by
  obtain ⟨hfixed, hprogrammable, hfall, hbounds⟩ := h
  refine ⟨fun i hi => ?_, fun i hi => ?_, hfall, hbounds⟩
  · rw [EventUnit.raise_enable, EventUnit.raise_level]; exact hfixed i hi
  · rw [EventUnit.raise_level]; exact hprogrammable i hi

theorem State.raise_offBus (s : State) (src : EventSource) (d : Word) : s.OffBus (s.raise src d) :=
  State.Steady.offBus ⟨rfl, rfl, rfl, rfl, rfl, rfl, (·.notice src), (·.raise src d), fun _ _ => id, fun _ _ => id⟩ rfl

theorem State.raiseAll_offBus (s : State) (rs : List (EventSource × Word)) : s.OffBus (s.raiseAll rs) := by
  induction rs generalizing s with
  | nil => exact .refl s
  | cons r rs ih => exact (s.raise_offBus r.1 r.2).trans (ih _)

theorem State.traceTake_offBus (s : State) (b : TraceBody) (f : Bool) : s.OffBus (s.traceTake b f) := by
  have htake : s.OffBus { s with trace := (s.trace.take b f).1 } :=
    State.Steady.offBus ⟨rfl, rfl, rfl, rfl, rfl, rfl, (·.take b f), id, fun _ _ => id, fun _ _ => id⟩ rfl
  unfold State.traceTake
  dsimp only
  split
  · exact htake
  · exact htake.trans (State.raise_offBus _ _ _)

theorem State.traceReport_offBus (s : State) (r : EndReport) : s.OffBus (s.traceReport r) := by
  unfold State.traceReport
  split
  · exact s.traceTake_offBus _ _
  · exact .refl s

theorem State.traceMarker_offBus (s : State) (m : Marker) : s.OffBus (s.traceMarker m) := by
  unfold State.traceMarker
  split
  · exact s.traceTake_offBus _ _
  · exact .refl s

theorem State.recordWith_offBus (s : State) {record : State → State} (h : ∀ x : State, x.OffBus (record x))
    (rs : List (EventSource × Word)) : s.OffBus (s.recordWith record rs) := by
  have hcount : s.OffBus { s with orderChoices := s.orderChoices + 1 } :=
    State.Steady.offBus ⟨rfl, rfl, rfl, rfl, rfl, rfl, id, id, fun _ _ => id, fun _ _ => id⟩ rfl
  unfold State.recordWith
  split
  · split
    · exact (hcount.trans (h _)).trans (State.raiseAll_offBus _ rs)
    · exact (hcount.trans (State.raiseAll_offBus _ rs)).trans (h _)
  · exact (h s).trans (State.raiseAll_offBus _ rs)

/-! ### Tables, line store and port -/

theorem State.setTable_offBus (s : State) (r : Role) (x : Table) : s.OffBus (s.setTable r x) :=
  State.Steady.offBus ⟨rfl, rfl, rfl, rfl, rfl, rfl, id, id, fun _ _ => id, fun _ _ => id⟩ rfl

theorem State.releaseRole_offBus (s : State) (r : Role) : s.OffBus (s.releaseRole r) :=
  State.Steady.offBus ⟨rfl, rfl, rfl, rfl, rfl, rfl, id, id, fun _ _ => id, fun _ _ => id⟩ rfl

theorem State.setStore_offBus (s : State) (st : LineStore) : s.OffBus { s with store := st } :=
  State.Steady.offBus ⟨rfl, rfl, rfl, rfl, rfl, rfl, id, id, fun _ _ => id, fun _ _ => id⟩ rfl

theorem State.setLoader_offBus (s : State) (x : Loader) : s.OffBus { s with loader := x } :=
  State.Steady.offBus ⟨rfl, rfl, rfl, rfl, rfl, rfl, id, id, fun _ _ => id, fun _ _ => id⟩ rfl

/-- A new state of the SCU, when its pending commit is in time. -/
theorem State.setScu_offBus (s : State) (x : Scu)
    (h : ∀ lo ≤ 1, gateTimed s.scu.commit s.timeBase lo → gateTimed x.commit s.timeBase lo) : s.OffBus { s with scu := x } :=
  State.Steady.offBus ⟨rfl, rfl, rfl, rfl, rfl, rfl, id, id, h, fun _ _ => id⟩ rfl

theorem State.upset_offBus (s : State) (us : List Upset) : s.OffBus (s.upset us) := s.setStore_offBus _

theorem State.lineFailed_offBus (s : State) (l : LineIdx) : s.OffBus (s.lineFailed l) := by
  unfold State.lineFailed
  split
  · exact .refl s
  · exact (s.setStore_offBus _).trans (State.raise_offBus _ _ _)

theorem State.testWords_offBus (s : State) (l : LineIdx) (is : List WordIdx) : s.OffBus (s.testWords l is) := by
  unfold State.testWords
  split
  · exact s.lineFailed_offBus l
  · exact .refl s

theorem State.allocate_offBus {s t : State} {mask : BitVec 8} {data : List Word} {l : LineIdx}
    (h : s.allocate mask data = some (l, t)) : s.OffBus t := by
  unfold State.allocate at h
  split at h
  · cases h
  · dsimp only at h
    split at h <;> cases h
    · exact (s.setStore_offBus _).trans (State.raise_offBus _ _ _)
    · exact s.setStore_offBus _

theorem State.request_offBus (s : State) (who : Requester) (q : PortRequest) : s.OffBus (s.request who q) :=
  State.Steady.offBus ⟨rfl, rfl, rfl, rfl, rfl, rfl, id, id, fun _ _ => id, fun _ hlo h => h.request hlo _ who q⟩ rfl

theorem State.freePort_offBus (s : State) : s.OffBus s.freePort :=
  State.Steady.offBus ⟨rfl, rfl, rfl, rfl, rfl, rfl, id, id, fun _ _ => id, fun _ hlo _ => s.port.free_timed _ hlo⟩ rfl

/-! ### Commit and revert -/

theorem State.endStartUpLoad_offBus (s : State) : s.OffBus s.endStartUpLoad where
  toSteady := ⟨rfl, rfl, rfl, rfl, rfl, rfl, id, id, fun _ _ => id, fun _ _ => id⟩
  hbi := by unfold State.endStartUpLoad; dsimp only; split <;> rfl
  held := by
    unfold State.endStartUpLoad
    dsimp only
    split
    · intro h; cases h
    · exact id

theorem State.startUpCommitFailed_offBus (s : State) (b : Byte) : s.OffBus (s.startUpCommitFailed b) :=
  (s.raise_offBus _ _).trans (State.endStartUpLoad_offBus _)

theorem State.withdrawCommit_offBus (s : State) : s.OffBus s.withdrawCommit :=
  s.setScu_offBus _ fun _ _ _ => gateTimed_none _ _

theorem State.commitBadLine_offBus (s : State) (pc : PendingCommit) : s.OffBus (s.commitBadLine pc) := by
  have hfailed := ((s.setTable_offBus .staged { s.table .staged with result := .badLine }).trans
    (State.setScu_offBus _ { s.scu with state := .failed, commit := none } fun _ _ _ => gateTimed_none _ _)).trans
      (State.raise_offBus _ .commitResult (detailBytes 1 0 (s.table .staged).generation))
  unfold State.commitBadLine
  dsimp only
  split
  · exact hfailed.trans (State.startUpCommitFailed_offBus _ _)
  · exact hfailed

theorem State.rotate_offBus (s : State) : s.OffBus s.rotate :=
  State.Steady.offBus ⟨rfl, rfl, rfl, rfl, rfl, rfl, id, id, fun _ _ _ => gateTimed_none _ _, fun _ _ => id⟩ rfl

theorem State.commitDone_offBus (s : State) (pc : PendingCommit) : s.OffBus (s.commitDone pc) := by
  unfold State.commitDone
  dsimp only
  have hmarked := s.rotate_offBus.trans (s.rotate.recordWith_offBus (fun x => x.traceMarker_offBus
    { kind := .commit, newGeneration := (s.table .staged).generation, oldGeneration := (s.table .active).generation,
      letter := s.roles.staged }) [(.commitResult, detailBytes 0 0 (s.table .staged).generation)])
  split
  · exact hmarked.trans (State.endStartUpLoad_offBus _)
  · exact hmarked

theorem State.commitEffect_offBus (s : State) : s.OffBus s.commitEffect := by
  unfold State.commitEffect
  split
  · exact .refl s
  · split
    · exact s.commitBadLine_offBus _
    · exact s.commitDone_offBus _

theorem State.armCommit_offBus (s : State) (a : CommitArgs) (who : CommitRequester) : s.OffBus (s.armCommit a who) := by
  have harmed : s.OffBus { s with scu := { s.scu with
      state := .commitPending
      commit := some { args := a, deadline := a.deadline s.timeBase, requester := who, gateOpen := false } } } :=
    s.setScu_offBus _ fun _ hlo _ => a.deadline_timed _ _ _ hlo
  unfold State.armCommit
  dsimp only
  split
  · exact harmed.trans (State.commitEffect_offBus _)
  · exact harmed

theorem State.armStartUp_offBus (s : State) (a : CommitArgs) : s.OffBus (s.armStartUp a) := by
  unfold State.armStartUp
  split
  · exact s.armCommit_offBus a _
  · exact .refl s

theorem State.requestStartUpCommit_offBus (s : State) : s.OffBus s.requestStartUpCommit := by
  unfold State.requestStartUpCommit
  split
  · exact s.setScu_offBus _ fun _ _ => id
  · exact s.armStartUp_offBus _

theorem State.takeDeferred_offBus (s : State) : s.OffBus s.takeDeferred := by
  unfold State.takeDeferred
  split
  · exact .refl s
  · exact (s.setScu_offBus { s.scu with deferred := none } fun _ _ => id).trans (State.armStartUp_offBus _ _)

theorem State.expireGate_offBus (s : State) : s.OffBus s.expireGate := by
  unfold State.expireGate
  split
  · have hexpired := s.withdrawCommit_offBus.trans
      (State.raise_offBus _ .commitResult (detailBytes 2 0 (s.table .staged).generation))
    dsimp only
    split
    · exact hexpired.trans (State.startUpCommitFailed_offBus _ _)
    · exact hexpired
  · exact .refl s

/-! ### Verification -/

theorem State.endVerification_offBus (s : State) (r : VerifyResult) : s.OffBus (s.endVerification r) := by
  unfold State.endVerification
  split
  · exact .refl s
  · have hended (st : StagedState) : s.OffBus { s.setTable .staged { s.table .staged with result := r } with
        scu := { s.scu with state := st, verifier := none } } :=
      (s.setTable_offBus _ _).trans (State.setScu_offBus _ _ fun _ _ => id)
    dsimp only
    split
    · exact (hended _).trans (State.raise_offBus _ _ _)
    · exact ((hended _).trans (State.raise_offBus _ _ _)).trans (State.setLoader_offBus _ _)
    · split
      · exact (((hended .verified).trans (State.raise_offBus _ _ _)).trans (State.setLoader_offBus _ _)).trans
          (State.requestStartUpCommit_offBus _)
      · exact ((hended .failed).trans (State.raise_offBus _ _ _)).trans (State.endStartUpLoad_offBus _)

theorem State.requestOrigin_offBus (s : State) (e : Entry) (v : VerifyRun) : s.OffBus (s.requestOrigin e v) := by
  unfold State.requestOrigin
  dsimp only
  split
  · exact s.endVerification_offBus _
  · exact (s.setScu_offBus { s.scu with verifier := some v } fun _ _ => id).trans (State.request_offBus _ _ _)

theorem State.walkEntries_offBus (todo : List (Slot × Entry)) (v : VerifyRun) (s : State) :
    s.OffBus (State.walkEntries todo v s) := by
  induction todo generalizing v with
  | nil =>
    exact (s.setScu_offBus { s.scu with computedCrc := crc32Final v.crc } fun _ _ => id).trans
      (State.endVerification_offBus _ _)
  | cons x rest ih =>
    unfold State.walkEntries
    dsimp only
    split
    · exact (s.lineFailed_offBus _).trans (State.endVerification_offBus _ _)
    · split
      · exact ih _
      · exact s.requestOrigin_offBus _ _

theorem State.startVerification_offBus (s : State) (starter : VerifyStarter) : s.OffBus (s.startVerification starter) :=
  ((s.setTable_offBus .staged { s.table .staged with result := .none }).trans
    (State.setScu_offBus _ { s.scu with
      state := .verifying, verifier := some { starter := starter, passed := 0, crc := crc32Start, origin := [] } }
      fun _ _ => id)).trans (State.walkEntries_offBus _ _ _)

theorem State.verifierWord_offBus (s : State) (w : Word) : s.OffBus (s.verifierWord w) := by
  unfold State.verifierWord
  split
  · exact .refl s
  · split
    · exact .refl s
    · dsimp only
      split
      · exact s.requestOrigin_offBus _ _
      · split
        · exact State.walkEntries_offBus _ _ s
        · exact s.endVerification_offBus _

/-! ### The loader -/

theorem State.loaderRequest_offBus (s : State) : s.OffBus s.loaderRequest := s.request_offBus _ _

theorem State.beginLoad_offBus (s : State) (k : LoadKind) (ce : ChipEnable) (a : DownAddr) : s.OffBus (s.beginLoad k ce a) :=
  ((s.setScu_offBus { s.scu with state := .loading } fun _ _ => id).trans
    (State.setLoader_offBus _ { Loader.reset with state := .header, kind := k, ce := ce, cursor := a })).trans
      (State.loaderRequest_offBus _)

theorem State.loadFailed_offBus (s : State) (reason : ParseReason) : s.OffBus (s.loadFailed reason) := by
  have hdiscarded : s.OffBus { s.releaseRole .staged with scu := { s.scu with state := .empty, computedCrc := 0 } } :=
    (s.releaseRole_offBus .staged).trans (State.setScu_offBus _ _ fun _ _ => id)
  unfold State.loadFailed
  dsimp only
  split
  · exact (hdiscarded.trans (State.raise_offBus _ _ _)).trans (State.setLoader_offBus _ _)
  · exact (hdiscarded.trans (State.raise_offBus _ _ _)).trans (State.endStartUpLoad_offBus _)

theorem State.endOfBody_offBus (s : State) : s.OffBus s.endOfBody := by
  unfold State.endOfBody
  split
  · exact s.loadFailed_offBus _
  · exact (((s.setTable_offBus .staged _).trans
      (State.setScu_offBus _ { s.scu with state := .sealed, computedCrc := 0 } fun _ _ => id)).trans
        (State.setLoader_offBus _ { s.loader with state := .verify })).trans (State.startVerification_offBus _ _)

theorem State.nextRecord_offBus (s : State) : s.OffBus s.nextRecord := by
  unfold State.nextRecord
  split
  · exact s.endOfBody_offBus
  · exact s.loaderRequest_offBus

theorem State.placeEntry_offBus (s : State) (i : Slot) (e : Entry) (n : Nat) : s.OffBus (s.placeEntry i e n) :=
  ((s.setTable_offBus .staged _).trans (State.setLoader_offBus _ _)).trans (State.nextRecord_offBus _)

theorem State.recordRead_offBus (s : State) (bytes : List Byte) : s.OffBus (s.recordRead bytes) := by
  unfold State.recordRead
  split
  · exact s.loadFailed_offBus _
  · split
    · exact s.loadFailed_offBus _
    · split
      · exact s.loadFailed_offBus _
      · split
        · split
          · exact s.loadFailed_offBus _
          · exact (State.allocate_offBus (by assumption)).trans (State.placeEntry_offBus _ _ _ _)
        · exact s.placeEntry_offBus _ _ _

theorem State.headerRead_offBus (s : State) : s.OffBus s.headerRead := by
  unfold State.headerRead
  split
  · exact s.loadFailed_offBus _
  · exact (s.setLoader_offBus _).trans (State.nextRecord_offBus _)

theorem State.loaderWord_offBus (s : State) (w : Word) : s.OffBus (s.loaderWord w) := by
  unfold State.loaderWord
  split
  · dsimp only
    split
    · exact (s.setLoader_offBus _).trans (State.loaderRequest_offBus _)
    · exact (s.setLoader_offBus _).trans (State.headerRead_offBus _)
  · dsimp only
    split
    · exact (s.setLoader_offBus _).trans (State.loaderRequest_offBus _)
    · split
      · exact (s.setLoader_offBus _).trans (State.loadFailed_offBus _ _)
      · split
        · exact (s.setLoader_offBus _).trans (State.loaderRequest_offBus _)
        · exact (s.setLoader_offBus _).trans (State.recordRead_offBus _ _)
  all_goals exact .refl s

theorem State.loaderReadFailed_offBus (s : State) : s.OffBus s.loaderReadFailed := by
  unfold State.loaderReadFailed
  split
  iterate 2 exact s.loadFailed_offBus _
  all_goals exact .refl s

/-! ### The host bus -/

theorem State.setHbi_steady (s : State) (x : Hbi) : s.Steady { s with hbi := x } :=
  ⟨rfl, rfl, rfl, rfl, rfl, rfl, id, id, fun _ _ => id, fun _ _ => id⟩

theorem State.setTables_steady (s : State) (x : Tables) : s.Steady { s with tables := x } :=
  ⟨rfl, rfl, rfl, rfl, rfl, rfl, id, id, fun _ _ => id, fun _ _ => id⟩

theorem State.countHit_steady (s : State) (d : Decision) : s.Steady (s.countHit d) := by
  unfold State.countHit
  split
  · split
    · exact s.setTables_steady _
    · exact .refl s
  · exact .refl s

theorem State.gateTest_steady (s : State) (d : Decision) (okay : Bool) : s.Steady (s.gateTest d okay) := by
  unfold State.gateTest
  split
  · exact .refl s
  · split
    · exact (s.setScu_offBus _ fun _ _ _ pc hpc d hd => by cases hpc; cases hd).toSteady
    · exact .refl s

theorem State.endTransaction_steady (s : State) (d : Decision) (okay : Bool) (o : TxnOutcome)
    (before : List (EventSource × Word)) : s.Steady (s.endTransaction d okay o before) := by
  unfold State.endTransaction
  dsimp only
  have hstrobe : s.Steady (if okay then s else s.strobe errorStrobe) := by
    split
    · exact .refl s
    · exact s.setHbi_steady _
  exact (((hstrobe.trans (State.countHit_steady _ d)).trans
    (State.recordWith_offBus _ (fun x => x.traceReport_offBus _) _).toSteady).trans (State.gateTest_steady _ d okay)).trans
      (State.setHbi_steady _ _)

theorem State.awaitBeat_steady (s : State) (t : Txn) (q : PortRequest) : s.Steady (s.awaitBeat t q) :=
  (s.setHbi_steady _).trans (State.request_offBus _ _ _).toSteady

theorem State.serveRead_steady (bs : List BeatSource) (t : Txn) (s : State) : s.Steady (State.serveRead bs t s) := by
  induction bs generalizing t s with
  | nil => exact s.endTransaction_steady _ _ _ _
  | cons b rest ih =>
    cases b with
    | memory => exact s.awaitBeat_steady _ _
    | target ce tg => exact s.awaitBeat_steady _ _
    | store l =>
      unfold State.serveRead
      dsimp only
      split
      · exact s.awaitBeat_steady _ _
      · split
        · exact (s.setHbi_steady _).trans (ih _ _)
        · exact (s.lineFailed_offBus l).toSteady.trans (State.awaitBeat_steady _ _ _)

theorem State.serveWrite_steady (n : Nat) (t : Txn) (s : State) : s.Steady (State.serveWrite n t s) := by
  induction n generalizing t s with
  | zero => exact s.endTransaction_steady _ _ _ _
  | succ n ih =>
    unfold State.serveWrite
    split
    · exact (s.setHbi_steady _).trans (ih _ _)
    · exact s.awaitBeat_steady _ _

theorem State.serve_steady (s : State) (t : Txn) : s.Steady (s.serve t) := by
  unfold State.serve
  split
  · exact s.endTransaction_steady _ _ _ _
  · split
    · split
      · exact s.endTransaction_steady _ _ _ _
      · exact State.serveWrite_steady _ _ s
    · exact State.serveRead_steady _ _ s

theorem State.hostWord_steady (s : State) (md : Word) : s.Steady (s.hostWord md) := by
  unfold State.hostWord
  split
  · dsimp only
    split
    · exact (s.setHbi_steady _).trans (State.serveWrite_steady _ _ _)
    · exact (s.setHbi_steady _).trans (State.serveRead_steady _ _ _)
  · exact .refl s

theorem State.hostFailed_steady (s : State) (rs : List (EventSource × Word)) : s.Steady (s.hostFailed rs) := by
  unfold State.hostFailed
  split
  · exact s.endTransaction_steady _ _ _ _
  · exact (s.raiseAll_offBus rs).toSteady

theorem State.expireAccess_steady (s : State) : s.Steady s.expireAccess := by
  unfold State.expireAccess
  split
  · exact .refl s
  · split
    · have hfree := s.freePort_offBus
      split
      · exact (hfree.trans (State.raiseAll_offBus _ _)).toSteady
      · split
        · exact hfree.toSteady.trans (State.hostFailed_steady _ _)
        · exact ((hfree.trans (State.raiseAll_offBus _ _)).trans (State.loaderReadFailed_offBus _)).toSteady
        · exact ((hfree.trans (State.raiseAll_offBus _ _)).trans (State.endVerification_offBus _ _)).toSteady
    · exact .refl s

end Sys2Proof.Machine
end

section
/-! PROOF. The service commands as one family: each row goes to its owning rule, and what the owning rules leave alone. -/

namespace Sys2Proof.Machine

open Sys2Proof

set_option Elab.async false

/-! ### The owning rule of a row (R168) -/

/-- The owning rule of a service command that ends when it executes. -/
def replyOf : Instr → List Byte → State → Reply
  | .echo => State.runEcho
  | .identify => State.runIdentify
  | .readEntry us => State.runReadEntry us
  | .queryStore => State.runQueryStore
  | .scrubLine us => State.runScrubLine us
  | .setFreeThreshold => State.runSetFreeThreshold
  | .openSet => State.runOpenSet
  | .cloneActive => State.runCloneActive
  | .addEntry => State.runAddEntry
  | .modifyEntry => State.runModifyEntry
  | .removeEntry => State.runRemoveEntry
  | .sealSet => State.runSealSet
  | .unsealSet => State.runUnsealSet
  | .verifySet us => State.runVerify us
  | .discardSet => State.runDiscardSet
  | .querySets => State.runQuerySets
  | .commit => State.runCommit
  | .cancelCommit => State.runCancel
  | .clearRetained => State.runClearRetained
  | .loadImage => State.runLoadImage
  | .releaseHost => State.runReleaseHost
  | .setRegion => State.runSetRegion
  | .readRegion => State.runReadRegion
  | .setBackground => State.runSetBackground
  | .setMemoryTiming => State.runSetMemoryTiming
  | .traceConfigure => State.runTraceConfigure
  | .traceStart => State.runTraceStart
  | .traceStop => State.runTraceStop
  | .traceRead => State.runTraceRead
  | .traceClear => State.runTraceClear
  | .traceStatus => State.runTraceStatus
  | .eventConfig => State.runEventConfig
  | .takeEvent => State.runTakeEvent
  | .finishEvent => State.runFinishEvent
  | .eventStatus => State.runEventStatus
  | .raiseEvent => State.runRaiseEvent
  | _ => fun _ s => s.refuse .unknownCommand

/-- The owning rule of a service command: it answers at once, but for the two that end at a boundary (R168, R169). -/
def ownRule (c : Instr) (q : QueuedCommand) (s : State) : State :=
  match c with
  | .resetPart => s.runResetPart q
  | .revert => s.runRevert q
  | c => (replyOf c q.payload s).1.respond q.tag (replyOf c q.payload s).2.1 (replyOf c q.payload s).2.2

/-- A service command is its owning rule behind the executor; CANCEL_COMMIT waits for a due effect point first. -/
theorem exec_service {c : Instr} {code : Byte} (hc : commandCode c = some code) (s : State) :
    exec c s = .next (if c = .cancelCommit ∧ (s.commitDue && !s.inFlight) = true then s
      else s.runCommand code (ownRule c)) := by
  cases c with
  | cancelCommit =>
    cases hc
    have harm : exec .cancelCommit s =
      .next (if s.commitDue && !s.inFlight then s else s.runReply 0x31 State.runCancel) := rfl
    rw [harm]
    simp only [true_and]
    rfl
  | _ =>
    cases hc <;>
      · rw [if_neg (fun h => Instr.noConfusion h.1)]
        rfl

/-- All that a service command can do: nothing, the refusal of its payload length, or its owning rule. -/
theorem exec_service_cases {c : Instr} {code : Byte} {s t : State} (hc : commandCode c = some code)
    (h : exec c s = .next t) :
    t = s ∨ ∃ tag p rest, s.offers code tag p rest ∧
      (t = s.ended rest tag .badArgument [] ∨ t = ownRule c ⟨tag, code, p⟩ (s.taken rest)) := by
  rw [exec_service hc] at h
  cases h
  split
  · exact .inl rfl
  · exact s.runCommand_cases code (ownRule c)

end Sys2Proof.Machine
end

section
/-! PROOF. What the owning rules of the service commands leave alone, and all that an owning rule can come to. -/

namespace Sys2Proof.Machine

open Sys2Proof

set_option Elab.async false

/-! ### Frames of the rules that change the sets -/

theorem State.putEntry_offBus (s : State) (i : Slot) (e : Entry) : s.OffBus (s.putEntry i e).1 := s.setTable_offBus _ _

theorem State.putAllocated_offBus (s : State) (i : Slot) (r : EntryRecord) (mask : BitVec 8) (data : List Word)
    {after : State → State} (hafter : ∀ x : State, x.OffBus (after x)) :
    s.OffBus (s.putAllocated i r mask data after).1 := by
  unfold State.putAllocated
  split
  · exact .refl s
  · exact ((State.allocate_offBus (by assumption)).trans (hafter _)).trans (State.putEntry_offBus _ _ _)

theorem State.replaceEntry_offBus (s : State) (i : Slot) (old : Entry) (r : EntryRecord) :
    s.OffBus (s.replaceEntry i old r).1 := by
  have hrelease (x : State) (l : LineIdx) : x.OffBus (x.release l) := x.setStore_offBus _
  unfold State.replaceEntry
  split
  · split
    · exact (s.setStore_offBus _).trans (State.putEntry_offBus _ _ _)
    · exact s.putAllocated_offBus _ _ _ _ (hrelease · _)
  · exact (hrelease s _).trans (State.putEntry_offBus _ _ _)
  · exact s.putAllocated_offBus _ _ _ _ .refl
  · exact s.putEntry_offBus _ _

theorem State.runOpenSet_offBus (s : State) (p : List Byte) : s.OffBus (s.runOpenSet p).1 := by
  unfold State.runOpenSet
  split
  · exact s.setScu_offBus _ fun _ _ => id
  · exact .refl s

theorem State.runCloneActive_offBus (s : State) (p : List Byte) : s.OffBus (s.runCloneActive p).1 := by
  unfold State.runCloneActive
  split
  · exact State.Steady.offBus ⟨rfl, rfl, rfl, rfl, rfl, rfl, id, id, fun _ _ => id, fun _ _ => id⟩ rfl
  · exact .refl s

theorem State.runAddEntry_offBus (s : State) (p : List Byte) : s.OffBus (s.runAddEntry p).1 := by
  unfold State.runAddEntry
  split
  · split
    · exact .refl s
    · split
      · exact .refl s
      · split
        · exact .refl s
        · split
          · exact s.putAllocated_offBus _ _ _ _ .refl
          · exact s.putEntry_offBus _ _
  · exact .refl s

theorem State.runModifyEntry_offBus (s : State) (p : List Byte) : s.OffBus (s.runModifyEntry p).1 := by
  unfold State.runModifyEntry
  split
  · split
    · exact .refl s
    · split
      · exact .refl s
      · split
        · exact .refl s
        · exact s.replaceEntry_offBus _ _ _
  · exact .refl s

theorem State.runRemoveEntry_offBus (s : State) (p : List Byte) : s.OffBus (s.runRemoveEntry p).1 := by
  unfold State.runRemoveEntry
  split
  · split
    · exact .refl s
    · split
      · exact .refl s
      · split
        · exact .refl s
        · exact (s.setStore_offBus _).trans (State.setTable_offBus _ _ _)
  · exact .refl s

theorem State.runSealSet_offBus (s : State) (p : List Byte) : s.OffBus (s.runSealSet p).1 := by
  unfold State.runSealSet
  repeat' split
  case _ => exact .refl s
  case _ => exact (s.setTable_offBus _ _).trans (State.setScu_offBus _ _ fun _ _ => id)
  case _ => exact .refl s

theorem State.runUnsealSet_offBus (s : State) (p : List Byte) : s.OffBus (s.runUnsealSet p).1 := by
  unfold State.runUnsealSet
  split
  · exact (s.setTable_offBus _ _).trans (State.setScu_offBus _ _ fun _ _ => id)
  · exact .refl s

theorem State.discard_offBus (s : State) : s.OffBus s.discard :=
  State.Steady.offBus ⟨rfl, rfl, rfl, rfl, rfl, rfl, id, id, fun _ _ => id,
    fun _ _ h => (h.giveUp .loader).giveUp .verifier⟩ rfl

theorem State.runDiscardSet_offBus (s : State) (p : List Byte) : s.OffBus (s.runDiscardSet p).1 := by
  unfold State.runDiscardSet
  split
  · exact .refl s
  · split
    · exact .refl s
    · exact s.discard_offBus

theorem State.runVerify_offBus (us : List Upset) (s : State) (p : List Byte) : s.OffBus (s.runVerify us p).1 := by
  unfold State.runVerify
  split
  · exact (s.upset_offBus us).trans (State.startVerification_offBus _ _)
  · exact .refl s

theorem State.runCommit_offBus (s : State) (p : List Byte) : s.OffBus (s.runCommit p).1 := by
  unfold State.runCommit
  split
  · split
    · exact .refl s
    · dsimp only
      split
      · exact .refl s
      · exact s.armCommit_offBus _ _
  all_goals exact .refl s

theorem State.runCancel_offBus (s : State) (p : List Byte) : s.OffBus (s.runCancel p).1 := by
  unfold State.runCancel
  split
  · dsimp only
    split
    · exact s.withdrawCommit_offBus.trans (State.startUpCommitFailed_offBus _ _)
    · exact s.withdrawCommit_offBus
  · exact .refl s

theorem State.runLoadImage_offBus (s : State) (p : List Byte) : s.OffBus (s.runLoadImage p).1 := by
  unfold State.runLoadImage
  split
  · split
    · exact .refl s
    · exact s.beginLoad_offBus _ _ _
  · exact .refl s

theorem State.runReadEntry_offBus (us : List Upset) (s : State) (p : List Byte) : s.OffBus (s.runReadEntry us p).1 := by
  unfold State.runReadEntry
  split
  · exact .refl s
  · dsimp only
    split
    · exact .refl s
    · unfold State.readOccupied
      dsimp only
      split
      · exact (s.upset_offBus us).trans (State.testWords_offBus _ _ _)
      · exact s.upset_offBus us

theorem State.runScrubLine_offBus (us : List Upset) (s : State) (p : List Byte) : s.OffBus (s.runScrubLine us p).1 := by
  unfold State.runScrubLine
  split
  · exact .refl s
  · split
    · dsimp only
      split <;> exact s.setStore_offBus _
    · exact .refl s

/-! ### Frames of the rules of the other units -/

theorem State.runReleaseHost_offBus (s : State) (p : List Byte) : s.OffBus (s.runReleaseHost p).1 := by
  unfold State.runReleaseHost
  split
  · exact ⟨⟨rfl, rfl, rfl, rfl, rfl, rfl, id, id, fun _ _ => id, fun _ _ => id⟩, rfl, fun h => nomatch h⟩
  · exact .refl s

theorem MemPort.setTimeout_access (p : MemPort) (t : BitVec 8) (ce : ChipEnable) : (p.setTimeout t ce).access = p.access := by
  cases ce <;> rfl

theorem State.runSetMemoryTiming_offBus (s : State) (p : List Byte) : s.OffBus (s.runSetMemoryTiming p).1 := by
  unfold State.runSetMemoryTiming
  split
  · exact .refl s
  · split
    · exact .refl s
    · split
      · exact .refl s
      · exact State.Steady.offBus ⟨rfl, rfl, rfl, rfl, rfl, rfl, id, id, fun _ _ => id,
          fun _ _ h a ha => h a (by rwa [MemPort.setTimeout_access] at ha)⟩ rfl

/-- A new trace unit, when it keeps the bounds of its buffer. -/
theorem State.setTrace_offBus (s : State) (x : TraceUnit) (h : s.trace.fits → x.fits) : s.OffBus { s with trace := x } :=
  State.Steady.offBus ⟨rfl, rfl, rfl, rfl, rfl, rfl, h, id, fun _ _ => id, fun _ _ => id⟩ rfl

/-- A new event unit, when it keeps the range of its levels. -/
theorem State.setEvents_offBus (s : State) (x : EventUnit) (h : s.events.fits → x.fits) : s.OffBus { s with events := x } :=
  State.Steady.offBus ⟨rfl, rfl, rfl, rfl, rfl, rfl, id, h, fun _ _ => id, fun _ _ => id⟩ rfl

theorem State.runTraceConfigure_offBus (s : State) (p : List Byte) : s.OffBus (s.runTraceConfigure p).1 := by
  unfold State.runTraceConfigure
  split
  · split
    · exact .refl s
    · exact s.setTrace_offBus _ id
  · exact .refl s

theorem State.runTraceStart_offBus (s : State) (p : List Byte) : s.OffBus (s.runTraceStart p).1 := by
  unfold State.runTraceStart
  split
  · exact s.setTrace_offBus _ id
  · exact .refl s

/-- The records left after a removal from the head are still numbered up to the counter (R147). -/
theorem TraceUnit.fits.drop {t : TraceUnit} (h : t.fits) (n : Nat) :
    TraceUnit.fits { t with records := t.records.drop n } := by
  obtain ⟨hlen, hseq⟩ := h
  refine ⟨by simp; omega, ?_⟩
  have := congrArg (List.drop n) hseq
  rw [← List.map_drop] at this
  dsimp only
  rw [this]
  refine List.ext_getElem (by simp) fun i h1 h2 => ?_
  simp at h1 ⊢
  rw [Nat.sub_add_eq, Nat.sub_right_comm]

theorem State.runTraceRead_offBus (s : State) (p : List Byte) : s.OffBus (s.runTraceRead p).1 := by
  unfold State.runTraceRead
  dsimp only
  split
  · exact s.setTrace_offBus _ (·.drop _)
  · exact .refl s

theorem State.runTraceClear_offBus (s : State) (p : List Byte) : s.OffBus (s.runTraceClear p).1 :=
  s.setTrace_offBus _ fun _ => ⟨by simp, rfl⟩

theorem eventConfigArgs_bounds {p : List Byte} {i : Fin 14} {enable : Bool} {level : Nat}
    (h : eventConfigArgs p = some (i, enable, level)) : i.val < 12 ∧ 1 ≤ level ∧ level ≤ 3 := by
  unfold eventConfigArgs at h
  split at h
  · cases h
  · split at h
    · split at h
      · cases h
        dsimp only
        omega
      · cases h
    · cases h

theorem EventUnit.setSource_self (e : EventUnit) (i : Fin 14) (x : SourceState) : (e.setSource i x).sources[i] = x := by
  simp [EventUnit.setSource]

theorem EventUnit.setSource_ne (e : EventUnit) (i j : Fin 14) (x : SourceState) (h : j ≠ i) :
    (e.setSource i x).sources[j] = e.sources[j] := by
  simp only [EventUnit.setSource, Fin.getElem_fin]
  exact Vector.getElem_set_ne _ _ (fun hij => h (Fin.ext hij.symm))

theorem State.runEventConfig_offBus (s : State) (p : List Byte) : s.OffBus (s.runEventConfig p).1 := by
  unfold State.runEventConfig
  split
  · exact .refl s
  · rename_i i enable level hargs
    obtain ⟨hi, hpos, hle⟩ := eventConfigArgs_bounds hargs
    refine s.setEvents_offBus _ fun ⟨hfixed, hprogrammable, hfall, hbounds⟩ =>
      ⟨fun j hj => ?_, fun j hj => ?_, hfall, hbounds⟩
    · rw [EventUnit.setSource_ne _ _ _ _ (by rintro rfl; omega)]
      exact hfixed j hj
    · by_cases hij : j = i
      · subst hij; rw [EventUnit.setSource_self]; exact ⟨hpos, hle⟩
      · rw [EventUnit.setSource_ne _ _ _ _ hij]; exact hprogrammable j hj

/-- A take keeps the levels: the taken one is above all levels in service (R155). -/
theorem EventUnit.fits.taken {e : EventUnit} (h : e.fits) {i : Fin 14} (hi : e.eligible i = true) : (e.taken i).fits := by
  have hsources (j : Fin 14) : (e.taken i).sources[j].enable = e.sources[j].enable ∧
      (e.taken i).sources[j].level = e.sources[j].level := by
    by_cases hij : j = i
    · subst hij; simp [EventUnit.taken, EventUnit.setSource]
    · have := e.setSource_ne i j { e.sources[i] with pending := false, count := 0 } hij
      exact ⟨congrArg SourceState.enable this, congrArg SourceState.level this⟩
  obtain ⟨-, -, habove⟩ := (h.eligible_iff i).mp hi
  have hpos := h.level_pos i
  obtain ⟨hfixed, hprogrammable, hfall, hbounds⟩ := h
  have hle : e.sources[i].level ≤ 4 := by
    obtain hlt | hge := Nat.lt_or_ge i.val 12
    · have := hprogrammable i hlt; omega
    · exact (hfixed i hge).2.le
  refine ⟨fun j hj => ?_, fun j hj => ?_, List.pairwise_cons.mpr ⟨habove, hfall⟩, fun l hl => ?_⟩
  · rw [(hsources j).1, (hsources j).2]; exact hfixed j hj
  · rw [(hsources j).2]; exact hprogrammable j hj
  · obtain rfl | hl := List.mem_cons.mp hl
    · exact ⟨hpos, hle⟩
    · exact hbounds l hl

theorem State.runTakeEvent_offBus (s : State) (p : List Byte) : s.OffBus (s.runTakeEvent p).1 := by
  unfold State.runTakeEvent
  split
  · exact .refl s
  · rename_i i hchoose
    have hi : s.events.eligible i = true := by
      have := s.events.choose_isChoice
      rw [hchoose] at this
      obtain ⟨-, hi, -⟩ := this
      exact hi
    exact s.setEvents_offBus _ (·.taken hi)

theorem State.runFinishEvent_offBus (s : State) (p : List Byte) : s.OffBus (s.runFinishEvent p).1 := by
  unfold State.runFinishEvent
  split
  · exact .refl s
  · refine s.setEvents_offBus _ fun ⟨hfixed, hprogrammable, hfall, hbounds⟩ =>
      ⟨hfixed, hprogrammable, hfall.filter _, fun l hl => hbounds l (List.mem_of_mem_filter hl)⟩

/-! ### All owning rules -/

/-- A rule that only reports. -/
theorem State.OffBus.of_fst_eq {s : State} {r : Reply} (h : r.1 = s) : s.OffBus r.1 := by rw [h]

theorem State.runQueryStore_fst (s : State) (p : List Byte) : (s.runQueryStore p).1 = s := by
  unfold State.runQueryStore; repeat' split
  all_goals rfl

theorem State.runReadRegion_fst (s : State) (p : List Byte) : (s.runReadRegion p).1 = s := by
  unfold State.runReadRegion; repeat' split
  all_goals rfl

theorem State.runEventStatus_fst (s : State) (p : List Byte) : (s.runEventStatus p).1 = s := by
  unfold State.runEventStatus; repeat' split
  all_goals rfl

theorem State.runSetFreeThreshold_offBus (s : State) (p : List Byte) : s.OffBus (s.runSetFreeThreshold p).1 := by
  unfold State.runSetFreeThreshold
  split
  · exact .refl s
  · exact s.setStore_offBus _

/-- The two commands that write the region table change nothing else. -/
theorem State.runSetRegion_fst (s : State) (p : List Byte) :
    (s.runSetRegion p).1 = { s with regions := (s.runSetRegion p).1.regions } := by
  unfold State.runSetRegion; split <;> rfl

theorem State.runSetBackground_fst (s : State) (p : List Byte) :
    (s.runSetBackground p).1 = { s with regions := (s.runSetBackground p).1.regions } := by
  unfold State.runSetBackground; split <;> rfl

/-- Every owning rule but the two that write the region table keeps the frame and the host bus. -/
theorem replyOf_offBus {c : Instr} (h1 : c ≠ .setRegion) (h2 : c ≠ .setBackground) (s : State) (p : List Byte) :
    s.OffBus (replyOf c p s).1 := by
  cases c with
  | setRegion => exact absurd rfl h1
  | setBackground => exact absurd rfl h2
  | readEntry us => exact s.runReadEntry_offBus us p
  | queryStore => exact .of_fst_eq (s.runQueryStore_fst p)
  | scrubLine us => exact s.runScrubLine_offBus us p
  | setFreeThreshold => exact s.runSetFreeThreshold_offBus p
  | openSet => exact s.runOpenSet_offBus p
  | cloneActive => exact s.runCloneActive_offBus p
  | addEntry => exact s.runAddEntry_offBus p
  | modifyEntry => exact s.runModifyEntry_offBus p
  | removeEntry => exact s.runRemoveEntry_offBus p
  | sealSet => exact s.runSealSet_offBus p
  | unsealSet => exact s.runUnsealSet_offBus p
  | verifySet us => exact s.runVerify_offBus us p
  | discardSet => exact s.runDiscardSet_offBus p
  | commit => exact s.runCommit_offBus p
  | cancelCommit => exact s.runCancel_offBus p
  | clearRetained => exact s.releaseRole_offBus _
  | loadImage => exact s.runLoadImage_offBus p
  | releaseHost => exact s.runReleaseHost_offBus p
  | readRegion => exact .of_fst_eq (s.runReadRegion_fst p)
  | setMemoryTiming => exact s.runSetMemoryTiming_offBus p
  | traceConfigure => exact s.runTraceConfigure_offBus p
  | traceStart => exact s.runTraceStart_offBus p
  | traceStop => exact s.setTrace_offBus _ id
  | traceRead => exact s.runTraceRead_offBus p
  | traceClear => exact s.runTraceClear_offBus p
  | eventConfig => exact s.runEventConfig_offBus p
  | takeEvent => exact s.runTakeEvent_offBus p
  | finishEvent => exact s.runFinishEvent_offBus p
  | eventStatus => exact .of_fst_eq (s.runEventStatus_fst p)
  | raiseEvent => exact s.raise_offBus _ _
  | _ => exact .refl s

/-! ### The two commands that end at a boundary -/

/-- The effect of a REVERT is its frame and then a response: of the bad line, or of the swap and its marker. -/
theorem State.revertEffect_eq_respond (s : State) (tag : Byte) :
    ∃ (u : State) (r : ResultCode) (p : List Byte), s.OffBus u ∧ s.revertEffect tag = u.respond tag r p := by
  unfold State.revertEffect
  dsimp only
  split
  · exact ⟨s, _, _, .refl s, rfl⟩
  · refine ⟨_, _, _, ?_, rfl⟩
    have hswap : s.OffBus { s with roles := { s.roles with active := s.roles.retained, retained := s.roles.active } } :=
      State.Steady.offBus ⟨rfl, rfl, rfl, rfl, rfl, rfl, id, id, fun _ _ => id, fun _ _ => id⟩ rfl
    exact hswap.trans (State.traceMarker_offBus _ _)

/-- A REVERT answers, behind its frame, or becomes the executing command. -/
theorem State.runRevert_cases (s : State) (q : QueuedCommand) :
    (∃ (u : State) (r : ResultCode) (p : List Byte), s.OffBus u ∧ s.runRevert q = u.respond q.tag r p) ∨
      s.runRevert q = { s with svp := { s.svp with executing := some { tag := q.tag, what := .revert } } } := by
  unfold State.runRevert
  split
  · exact .inl ⟨s, _, _, .refl s, rfl⟩
  · exact .inl ⟨s, _, _, .refl s, rfl⟩
  · split
    · exact .inr rfl
    · exact .inl (s.revertEffect_eq_respond q.tag)

/-- All that an owning rule can come to: a response behind the frame, one behind new regions, or the executing command. -/
theorem ownRule_cases (c : Instr) (q : QueuedCommand) (s : State) :
    (∃ (u : State) (r : ResultCode) (p : List Byte), s.OffBus u ∧ ownRule c q s = u.respond q.tag r p) ∨
      ((c = .setRegion ∨ c = .setBackground) ∧ ∃ (x : RegionTable) (r : ResultCode) (p : List Byte),
        (replyOf c q.payload s).1.regions = x ∧ ownRule c q s = State.respond { s with regions := x } q.tag r p) ∨
      ∃ w : BoundaryCommand, (c = .resetPart ∨ c = .revert) ∧
        ownRule c q s = { s with svp := { s.svp with executing := some { tag := q.tag, what := w } } } := by
  cases c with
  | resetPart => exact .inr (.inr ⟨.resetPart, .inl rfl, rfl⟩)
  | revert =>
    obtain h | h := s.runRevert_cases q
    · exact .inl h
    · exact .inr (.inr ⟨.revert, .inr rfl, h⟩)
  | setRegion =>
    refine .inr (.inl ⟨.inl rfl, _, (s.runSetRegion q.payload).2.1, (s.runSetRegion q.payload).2.2, rfl, ?_⟩)
    exact congrArg (State.respond · q.tag _ _) (s.runSetRegion_fst q.payload)
  | setBackground =>
    refine .inr (.inl ⟨.inr rfl, _, (s.runSetBackground q.payload).2.1, (s.runSetBackground q.payload).2.2, rfl, ?_⟩)
    exact congrArg (State.respond · q.tag _ _) (s.runSetBackground_fst q.payload)
  | _ => exact .inl ⟨_, _, _, replyOf_offBus Instr.noConfusion Instr.noConfusion s q.payload, rfl⟩

end Sys2Proof.Machine
end

section
/-! PROOF. Steps, the queue and the straps, the executor, the order of beats (O1, O2, O7, O54). -/

namespace Sys2Proof.Machine

open Sys2Proof

set_option Elab.async false

/-! ### Steps -/

/-- Settles O1: by the definition of a step. -/
theorem stepRunsFrontCommand : Obligations.StepRunsFrontCommand := by
  refine ⟨fun c s rest => rfl, fun s h => ?_⟩
  simp [step, h]

/-- A step is the idle of an empty queue or the command at its front. -/
theorem step_cases {s t : State} (h : step s = .next t) :
    (s.pending = [] ∧ t = s) ∨ ∃ c rest, s.pending = c :: rest ∧ exec c { s with pending := rest } = .next t := by
  unfold step at h
  split at h
  case _ hp => cases h; exact .inl ⟨hp, rfl⟩
  case _ c rest hp => exact .inr ⟨c, rest, hp, h⟩

/-! ### What a service command keeps (R168) -/

/-- What a service command leaves alone, whatever it does: queue, straps, time base, pin reset and the host's side. -/
structure State.ServiceKeeps (s t : State) : Prop where
  pending     : t.pending = s.pending
  straps      : t.straps = s.straps
  timeBase    : t.timeBase = s.timeBase
  inReset     : t.inReset = s.inReset
  hbiState    : t.hbi.state = s.hbi.state
  nextRequest : t.hbi.nextRequest = s.hbi.nextRequest
  strobes     : t.hbi.strobes = s.hbi.strobes

theorem State.OffBus.serviceKeeps {s u : State} (h : s.OffBus u) (tag : Byte) (r : ResultCode) (p : List Byte) :
    s.ServiceKeeps (u.respond tag r p) where
  pending := h.pending
  straps := h.straps
  timeBase := h.timeBase
  inReset := h.inReset
  hbiState := (congrArg Hbi.state h.hbi).trans rfl
  nextRequest := (congrArg Hbi.nextRequest h.hbi).trans rfl
  strobes := (congrArg Hbi.strobes h.hbi).trans rfl

theorem ownRule_serviceKeeps (c : Instr) (q : QueuedCommand) (s : State) : s.ServiceKeeps (ownRule c q s) := by
  obtain ⟨u, r, p, hu, heq⟩ | ⟨-, x, r, p, -, heq⟩ | ⟨w, -, heq⟩ := ownRule_cases c q s <;> rw [heq]
  · exact hu.serviceKeeps _ _ _
  · exact ⟨rfl, rfl, rfl, rfl, rfl, rfl, rfl⟩
  · exact ⟨rfl, rfl, rfl, rfl, rfl, rfl, rfl⟩

theorem exec_serviceKeeps {c : Instr} {code : Byte} {s t : State} (hc : commandCode c = some code)
    (h : exec c s = .next t) : s.ServiceKeeps t := by
  obtain rfl | ⟨tag, p, rest, -, rfl | rfl⟩ := exec_service_cases hc h
  · exact ⟨rfl, rfl, rfl, rfl, rfl, rfl, rfl⟩
  · exact ⟨rfl, rfl, rfl, rfl, rfl, rfl, rfl⟩
  · have hown := ownRule_serviceKeeps c ⟨tag, code, p⟩ (s.taken rest)
    exact ⟨hown.pending, hown.straps, hown.timeBase, hown.inReset, hown.hbiState, hown.nextRequest, hown.strobes⟩

/-! ### The queue and the straps (O2) -/

/-- A command keeps the queue and the straps. -/
def State.KeepsQueueAndStraps (s t : State) : Prop := t.pending = s.pending ∧ t.straps = s.straps

theorem State.Steady.keepsQueueAndStraps {s t : State} (h : s.Steady t) : s.KeepsQueueAndStraps t := ⟨h.pending, h.straps⟩

theorem State.enterStartUp_offFrame (s : State) :
    s.enterStartUp.pending = s.pending ∧ s.enterStartUp.straps = s.straps ∧ s.enterStartUp.inReset = s.inReset := by
  unfold State.enterStartUp
  dsimp only
  split <;> exact ⟨rfl, rfl, rfl⟩

theorem State.inPeriod_keepsQueueAndStraps (s : State) (bs : List Byte) : s.KeepsQueueAndStraps (s.inPeriod bs) := by
  unfold State.inPeriod
  split
  · exact ⟨s.clock_pending bs, s.clock_straps bs⟩
  · exact ⟨rfl, rfl⟩

theorem State.decideAtEnd_keepsQueueAndStraps (s : State) : s.KeepsQueueAndStraps s.decideAtEnd := by
  unfold State.decideAtEnd State.KeepsQueueAndStraps
  split
  · exact ⟨rfl, rfl⟩
  · split <;> simp

/-- The commands of the outside and of the part's own units, beside the resets, keep the queue and the straps. -/
theorem exec_keepsQueueAndStraps {c : Instr} {s t : State} (hc : ∀ b k, c ≠ .pinResetEnd b k)
    (h : exec c s = .next t) : s.KeepsQueueAndStraps t := by
  have up {f : State → State} (hf : ∀ x : State, x.KeepsQueueAndStraps (f x)) : s.KeepsQueueAndStraps (s.whenUp f) := by
    unfold State.whenUp
    split
    · exact ⟨rfl, rfl⟩
    · exact hf s
  cases hcode : commandCode c with
  | some code => exact ⟨(exec_serviceKeeps hcode h).pending, (exec_serviceKeeps hcode h).straps⟩
  | none =>
    cases c with
    | pinReset => cases h; exact ⟨rfl, rfl⟩
    | pinResetEnd b k => exact absurd rfl (hc b k)
    | serviceReset =>
      cases h
      refine up fun x => ?_
      split
      · exact ⟨x.serviceResetBlocks.enterStartUp_offFrame.1, x.serviceResetBlocks.enterStartUp_offFrame.2.1⟩
      · exact ⟨rfl, rfl⟩
    | timeBaseStep =>
      cases h
      exact up fun x => (x.expireGate_offBus.toSteady.trans (State.expireAccess_steady _)).keepsQueueAndStraps
    | hostRequest r => cases h; refine up fun x => ?_; dsimp only; split <;> exact ⟨rfl, rfl⟩
    | requestWithdrawn => cases h; refine up fun x => ?_; dsimp only; split <;> exact ⟨rfl, rfl⟩
    | acceptance us =>
      cases h
      refine up fun x => ?_
      dsimp only
      split
      · split
        · exact (((x.setHbi_steady _).trans (State.upset_offBus _ us).toSteady).trans
            (State.serve_steady _ _)).keepsQueueAndStraps
        · exact ⟨rfl, rfl⟩
      · exact ⟨rfl, rfl⟩
    | accessComplete md us =>
      cases h
      refine up fun x => ?_
      have hfree := (x.freePort_offBus.trans (State.upset_offBus _ us)).toSteady
      split
      · exact ⟨rfl, rfl⟩
      · split
        · exact ⟨rfl, rfl⟩
        · split
          · exact (hfree.trans (State.hostWord_steady _ md)).keepsQueueAndStraps
          · exact (hfree.trans (State.loaderWord_offBus _ md).toSteady).keepsQueueAndStraps
          · exact (hfree.trans (State.verifierWord_offBus _ md).toSteady).keepsQueueAndStraps
    | accessExpiry => cases h; exact up fun x => x.expireAccess_steady.keepsQueueAndStraps
    | effectPoint =>
      cases h
      refine up fun x => ?_
      split
      · exact x.commitEffect_offBus.toSteady.keepsQueueAndStraps
      · exact ⟨rfl, rfl⟩
    | gateTimerExpiry => cases h; exact up fun x => x.expireGate_offBus.toSteady.keepsQueueAndStraps
    | revertEffect =>
      cases h
      refine up fun x => ?_
      dsimp only
      split
      · exact ⟨rfl, rfl⟩
      · rename_i y hy
        split
        · obtain ⟨u, r, p, hu, heq⟩ :=
            State.revertEffect_eq_respond { x with svp := { x.svp with executing := none } } y.tag
          have htake := State.takeDeferred_offBus (u.respond y.tag r p)
          rw [heq]
          exact ⟨htake.pending.trans hu.pending, htake.straps.trans hu.straps⟩
        · exact ⟨rfl, rfl⟩
    | selectPeriodStart =>
      cases h
      split
      · exact ⟨rfl, rfl⟩
      · split <;> exact ⟨rfl, rfl⟩
    | statusHeaderSent bs => cases h; exact s.inPeriod_keepsQueueAndStraps bs
    | responseSent bs => cases h; exact s.inPeriod_keepsQueueAndStraps bs
    | requestFrame bs => cases h; exact s.inPeriod_keepsQueueAndStraps bs
    | malformedRequest bs => cases h; exact s.inPeriod_keepsQueueAndStraps bs
    | selectPeriodEnd bs =>
      cases h
      dsimp only
      split
      · have hend := (s.clock bs).decideAtEnd_keepsQueueAndStraps
        exact ⟨hend.1.trans (s.clock_pending bs), hend.2.trans (s.clock_straps bs)⟩
      · exact ⟨rfl, rfl⟩
    | unknownCommand =>
      cases h
      split
      · exact ⟨rfl, rfl⟩
      · rename_i q u hnext
        have hu : u.pending = s.pending ∧ u.straps = s.straps := by
          unfold State.nextCommand at hnext
          split at hnext
          · cases hnext
          · split at hnext <;> cases hnext
            exact ⟨rfl, rfl⟩
        split
        · exact ⟨rfl, rfl⟩
        · exact hu
    | _ => cases hcode

/-- Settles O2: the end of pin reset keeps the queue too; every other command keeps both. -/
theorem commandsKeepQueueAndStraps : Obligations.CommandsKeepQueueAndStraps := by
  intro c s t h
  by_cases hc : ∀ b k, c ≠ .pinResetEnd b k
  · have hkeep := exec_keepsQueueAndStraps hc h
    exact ⟨hkeep.1, fun _ => hkeep.2⟩
  · push Not at hc
    obtain ⟨b, k, rfl⟩ := hc
    refine ⟨?_, fun hne => absurd rfl (hne b k)⟩
    cases h
    split
    · exact (State.enterStartUp_offFrame _).1
    · rfl

/-! ### The executor (O54) -/

theorem State.nextCommand_of_executing {s : State} (h : s.svp.executing.isSome = true) : s.nextCommand = none := by
  simp [State.nextCommand, h]

theorem exec_service_of_executing {c : Instr} {code : Byte} {s : State} (hc : commandCode c = some code)
    (h : s.svp.executing.isSome = true) : exec c s = .next s := by
  have hrun : s.runCommand code (ownRule c) = s := by simp [State.runCommand, State.nextCommand_of_executing h]
  rw [exec_service hc, hrun, ite_self]

/-- Every listed code is the code of a row of the table (section 11.7). -/
theorem exists_commandCode_of_listed {code : Byte} (h : listedCode code = true) : ∃ c : Instr, commandCode c = some code := by
  have hrows : [Instr.echo, .identify, .resetPart, .readEntry [], .queryStore, .scrubLine [], .setFreeThreshold, .openSet,
      .cloneActive, .addEntry, .modifyEntry, .removeEntry, .sealSet, .unsealSet, .verifySet [], .discardSet, .querySets,
      .commit, .cancelCommit, .revert, .clearRetained, .loadImage, .releaseHost, .setRegion, .readRegion, .setBackground,
      .setMemoryTiming, .traceConfigure, .traceStart, .traceStop, .traceRead, .traceClear, .traceStatus, .eventConfig,
      .takeEvent, .finishEvent, .eventStatus, .raiseEvent].filterMap commandCode =
      [0x01#8, 0x02#8, 0x03#8, 0x11#8, 0x14#8, 0x15#8, 0x16#8, 0x20#8, 0x21#8, 0x22#8, 0x23#8, 0x24#8, 0x25#8, 0x26#8,
       0x27#8, 0x28#8, 0x29#8, 0x30#8, 0x31#8, 0x32#8, 0x33#8, 0x40#8, 0x41#8, 0x50#8, 0x51#8, 0x52#8, 0x58#8, 0x60#8,
       0x61#8, 0x62#8, 0x63#8, 0x64#8, 0x65#8, 0x70#8, 0x71#8, 0x72#8, 0x73#8, 0x74#8] := rfl
  have hmem := List.contains_iff_mem.mp h
  rw [← hrows] at hmem
  obtain ⟨c, -, hc⟩ := List.mem_filterMap.mp hmem
  exact ⟨c, hc⟩

/-- Settles O54: an executing command leaves the executor nothing to take; what a service command keeps is common to all. -/
theorem executorTakesOneCommand : Obligations.ExecutorTakesOneCommand := by
  refine ⟨fun s tag rest h => ?resetPart, fun c code s hc h => ⟨exec_service_of_executing hc h, ?unknownWaits⟩,
    fun c code s t hc h => ?keeps, fun s code tag p rest h hnone => ?unknown⟩
  case resetPart => exact congrArg Host.Outcome.next (State.runCommand_offers State.runResetPart h rfl)
  case unknownWaits =>
    have harm : exec .unknownCommand s = execUnknownCommand s := rfl
    simp [harm, execUnknownCommand, State.nextCommand_of_executing h]
  case keeps =>
    have hkeep := exec_serviceKeeps hc h
    exact ⟨hkeep.hbiState, hkeep.nextRequest, hkeep.strobes, hkeep.timeBase, hkeep.inReset⟩
  case unknown =>
    have hlisted : listedCode code = false := by
      rw [Bool.eq_false_iff]
      exact fun hl => (exists_commandCode_of_listed hl).elim hnone
    have harm : exec .unknownCommand s = execUnknownCommand s := rfl
    simp [harm, execUnknownCommand, State.nextCommand_offers h, hlisted, State.taken_respond]

/-! ### The order of beats (O7) -/

/-- Settles O7: four lengths of block and eight addresses are all there are. -/
theorem beatsInWrapOrder : Obligations.BeatsInWrapOrder := by
  unfold Obligations.BeatsInWrapOrder
  decide

end Sys2Proof.Machine
end

section
/-! PROOF. The resets, the time base, the requests of the host, and the state after reset (O3, O4, O5, O6, O60). -/

namespace Sys2Proof.Machine

open Sys2Proof

set_option Elab.async false

/-! ### The start-up behaviour (R90) -/

/-- The latched mode has a start-up load. -/
def StartMode.loads (m : StartMode) : Bool := m == .loadHold || m == .loadPass

/-- The latched mode holds the host. -/
def StartMode.holds (m : StartMode) : Bool := m == .loadHold || m == .hold

theorem State.enterStartUp_of_load {s : State} (h : s.straps.mode.loads = true) :
    s.enterStartUp =
      State.beginLoad { s with hbi := { s.hbi with held := s.straps.mode.holds } } .startUp .ce0
        (BitVec.ofNat 26 (Config.imageSlotOffset s.straps.imgSel.toNat)) := by
  have hmode : s.straps.mode = .loadHold ∨ s.straps.mode = .loadPass := by simpa [StartMode.loads] using h
  exact if_pos hmode

theorem State.enterStartUp_of_not_load {s : State} (h : s.straps.mode.loads = false) :
    s.enterStartUp = { s with hbi := { s.hbi with held := s.straps.mode.holds } } := by
  have hmode : ¬ (s.straps.mode = .loadHold ∨ s.straps.mode = .loadPass) := by simpa [StartMode.loads] using h
  exact if_neg hmode

/-- The cursor of a start-up load: the slot of IMGSEL (R80, R91). -/
theorem imageSlot_toNat (k : BitVec 2) :
    (BitVec.ofNat 26 (Config.imageSlotOffset k.toNat)).toNat = 0x00F00000 + k.toNat * 0x1000 := by
  have hk := k.isLt
  simp only [Config.imageSlotOffset, BitVec.toNat_ofNat]
  omega

/-- What the start-up behaviour leaves alone, and its hold (R90, R113). -/
theorem State.enterStartUp_keeps (s : State) :
    s.enterStartUp.timeBase = s.timeBase ∧ s.enterStartUp.roles = s.roles ∧ s.enterStartUp.tables = s.tables ∧
    s.enterStartUp.regions = s.regions ∧ s.enterStartUp.trace = s.trace ∧ s.enterStartUp.events = s.events ∧
    s.enterStartUp.svp = s.svp ∧ s.enterStartUp.hbi = { s.hbi with held := s.straps.mode.holds } ∧
    s.enterStartUp.scu.commit = s.scu.commit ∧ s.enterStartUp.scu.verifier = s.scu.verifier ∧
    s.enterStartUp.scu.computedCrc = s.scu.computedCrc := by
  cases h : s.straps.mode.loads
  case true => rw [State.enterStartUp_of_load h]; exact ⟨rfl, rfl, rfl, rfl, rfl, rfl, rfl, rfl, rfl, rfl, rfl⟩
  case false => rw [State.enterStartUp_of_not_load h]; exact ⟨rfl, rfl, rfl, rfl, rfl, rfl, rfl, rfl, rfl, rfl, rfl⟩

/-- A start-up load asks the memory port for nothing but its first header word, and leaves the ready timeouts. -/
theorem MemPort.request_keeps (p : MemPort) (now : Word) (who : Requester) (q : PortRequest) :
    (p.request now who q).timeout0 = p.timeout0 ∧ (p.request now who q).timeout1 = p.timeout1 := by
  unfold MemPort.request
  split
  · exact ⟨rfl, rfl⟩
  · cases who <;> exact ⟨rfl, rfl⟩

theorem State.enterStartUp_timeouts (s : State) :
    s.enterStartUp.port.timeout0 = s.port.timeout0 ∧ s.enterStartUp.port.timeout1 = s.port.timeout1 := by
  cases h : s.straps.mode.loads
  case true => rw [State.enterStartUp_of_load h]; exact MemPort.request_keeps _ _ _ _
  case false => rw [State.enterStartUp_of_not_load h]; exact ⟨rfl, rfl⟩

/-! ### The blocks at their reset values (R38, R150, R160) -/

theorem LineStore.afterReset_lines (st : LineStore) (l : LineIdx) :
    st.afterReset.lines[l] = { st.lines[l] with refCount := 0, bad := false } := by
  simp [LineStore.afterReset, LineStore.mapLines]

theorem LineStore.afterReset_lists (st : LineStore) :
    st.afterReset.freeList = List.finRange 256 ∧ st.afterReset.badList = [] := by
  simp [LineStore.afterReset]

theorem State.alertLow_of_reset {s : State} (h : s.events = EventUnit.reset) : s.alertLow = false := by
  have hnone : (List.finRange 14).any EventUnit.reset.eligible = false := by decide
  rw [State.alertLow, h, hnone, Bool.and_false]

theorem Tables.get_reset (x : Letter) : State.reset.tables.get x = Table.empty := by cases x <;> rfl

/-- The start-up mode of a strap, by its code and its two answers (R80). -/
theorem StartMode.ofStrap_spec (b : BitVec 2) :
    (StartMode.ofStrap b).code.toNat = b.toNat ∧ ((StartMode.ofStrap b).holds = true ↔ b = 1 ∨ b = 3) ∧
    ((StartMode.ofStrap b).loads = true ↔ b = 1 ∨ b = 2) := by
  revert b
  decide

/-- Settles O3: each reset writes every block, and the start-up behaviour is that of the strap. -/
theorem pinResetAndItsEnd : Obligations.PinResetAndItsEnd := by
  refine ⟨fun s => ⟨_, rfl, rfl, State.alertLow_of_reset rfl, rfl, rfl, rfl, rfl, rfl, rfl, rfl, rfl, rfl, rfl, rfl, rfl,
    fun l => ?_⟩, fun s b k hs => ?_⟩
  · show s.store.afterReset.lines[l].words = _
    rw [s.store.afterReset_lines l]
  let w : State :=
    { s.pinResetBlocks with inReset := false, straps := { mode := StartMode.ofStrap b, imgSel := k } }
  obtain ⟨htime, hroles, htables, hregions, htrace, hevents, hsvp, hhbi, hcommit, hver, hcrc⟩ := w.enterStartUp_keeps
  obtain ⟨hq, hstraps, hup⟩ := w.enterStartUp_offFrame
  obtain ⟨ht0, ht1⟩ := w.enterStartUp_timeouts
  obtain ⟨hcode, hholds, hloads⟩ := StartMode.ofStrap_spec b
  have hexec : exec (.pinResetEnd b k) s = .next w.enterStartUp := by
    simp only [exec, execPinResetEnd, hs, if_true, w]
  have hstore : w.enterStartUp.store = s.store.afterReset := w.enterStartUp_store
  refine ⟨w.enterStartUp, hexec, hup, congrArg Straps.imgSel hstraps, ?_, htime, hroles,
    fun r => ?_, hregions, htrace, hevents, State.alertLow_of_reset hevents, hstore ▸ s.store.afterReset_lists.1, hstore ▸ s.store.afterReset_lists.2,
    congrArg LineStore.threshold hstore, fun l => ?_, congrArg ServicePort.commands hsvp,
    congrArg ServicePort.executing hsvp, congrArg ServicePort.responses hsvp, congrArg ServicePort.resetSeen hsvp,
    (congrArg ServicePort.lastVerdict hsvp).trans rfl, (congrArg ServicePort.lastTag hsvp).trans rfl, (congrArg ServicePort.ssLow hsvp).trans rfl,
    (congrArg ServicePort.ignoring hsvp).trans rfl, ht0, ht1, (congrArg Hbi.state hhbi).trans rfl, ?_, hcommit, hver, hcrc, ?_⟩
  · rw [hstraps]; exact hcode
  · rw [State.table, htables]; exact Tables.get_reset _
  · rw [hstore]; exact s.store.afterReset_lines l
  · rw [hhbi]; exact hholds
  · split
    case isTrue h =>
      rw [State.enterStartUp_of_load (hloads.mpr h)]
      exact ⟨rfl, rfl, rfl, rfl, imageSlot_toNat k, rfl⟩
    case isFalse h =>
      rw [State.enterStartUp_of_not_load (Bool.eq_false_iff.mpr fun hl => h (hloads.mp hl))]
      exact ⟨rfl, rfl, rfl⟩

/-- Settles O4: the blocks at their values after a service reset, and the start-up behaviour of the latched mode. -/
theorem serviceResetAtBoundary : Obligations.ServiceResetAtBoundary := by
  intro s hs hidle hdue
  let w : State := s.serviceResetBlocks
  obtain ⟨htime, hroles, htables, hregions, htrace, hevents, hsvp, hhbi, hcommit, hver, -⟩ := w.enterStartUp_keeps
  obtain ⟨-, hstraps, -⟩ := w.enterStartUp_offFrame
  obtain ⟨ht0, ht1⟩ := w.enterStartUp_timeouts
  have hstore : w.enterStartUp.store = s.store.afterReset := w.enterStartUp_store
  have hexec : exec .serviceReset s = .next w.enterStartUp := by
    refine congrArg Host.Outcome.next ((State.whenUp_of hs _).trans (if_pos ?_))
    rw [hdue, hidle]; rfl
  refine ⟨w.enterStartUp, hexec, hstraps, htime, hroles, fun r => ?_, hregions, htrace, hevents,
    State.alertLow_of_reset hevents, hstore ▸ s.store.afterReset_lists.1, hstore ▸ s.store.afterReset_lists.2,
    congrArg LineStore.threshold hstore, fun l => ?_,
    (congrArg Hbi.state hhbi).trans rfl, ?_, congrArg ServicePort.commands hsvp, congrArg ServicePort.executing hsvp,
    congrArg ServicePort.responses hsvp, congrArg ServicePort.resetSeen hsvp, congrArg ServicePort.partialMark hsvp,
    (congrArg ServicePort.shifter hsvp).trans rfl, (congrArg ServicePort.lastVerdict hsvp).trans rfl, (congrArg ServicePort.lastTag hsvp).trans rfl, ?_, hcommit, hver, ht0, ht1, fun a ha => ?_, ?_⟩
  · rw [State.table, htables]; exact Tables.get_reset _
  · rw [hstore]; exact s.store.afterReset_lines l
  · rw [hhbi]
    show s.straps.mode.holds = true ↔ _
    simp [StartMode.holds]
  · rw [hsvp]
    show (s.svp.out.map fun o => { o with live := false }).map (fun o => (o.header, o.response)) = _
    rw [Option.map_map]; rfl
  · have hw : w.port.access = some { a with givenUp := true } := by
      show s.port.access.map _ = _
      rw [ha]; rfl
    cases h : w.straps.mode.loads
    case true => rw [State.enterStartUp_of_load h]; exact (MemPort.request_spec w.port w.timeBase .loader _).2 _ hw |>.2
    case false => rw [State.enterStartUp_of_not_load h]; exact hw
  · have hloads : w.straps.mode.loads = true ↔ s.straps.mode = .loadHold ∨ s.straps.mode = .loadPass := by
      show s.straps.mode.loads = true ↔ _
      simp [StartMode.loads]
    split
    case isTrue h =>
      rw [State.enterStartUp_of_load (hloads.mpr h)]
      refine ⟨rfl, rfl, rfl, imageSlot_toNat s.straps.imgSel, fun ha => ?_, fun ha => ?_⟩
      · have hw : w.port.access = none := by show s.port.access.map _ = _; rw [ha]; rfl
        exact congrArg (fun p : MemPort => p.access.map fun a => (a.who, a.req))
          ((MemPort.request_spec w.port w.timeBase .loader _).1 hw)
      · obtain ⟨a, ha⟩ := Option.ne_none_iff_exists'.mp ha
        have hw : w.port.access = some { a with givenUp := true } := by show s.port.access.map _ = _; rw [ha]; rfl
        exact congrArg MemPort.loader ((MemPort.request_spec w.port w.timeBase .loader _).2 _ hw).1
    case isFalse h =>
      rw [State.enterStartUp_of_not_load (Bool.eq_false_iff.mpr fun hl => h (hloads.mp hl))]
      exact ⟨rfl, rfl, rfl, rfl, rfl⟩

/-! ### The timers and the time base (R65, R127, R134) -/

/-- What is left of a step's expiry, however it comes: the port is freed, then the requester told (R127, R128). -/
theorem State.expireAccess_of_expired {s : State} {a : Access} (ha : s.port.access = some a) (hexp : a.expired = true) :
    s.freePort.Steady s.expireAccess := by
  unfold State.expireAccess
  rw [ha]
  dsimp only
  rw [if_pos hexp]
  have hraise := (s.freePort.raiseAll_offBus [a.timeoutRaise]).toSteady
  split
  · exact hraise
  · split
    · exact State.hostFailed_steady _ _
    · exact hraise.trans (State.loaderReadFailed_offBus _).toSteady
    · exact hraise.trans (State.endVerification_offBus _ _).toSteady

/-- An access timed to have a step left has not expired. -/
theorem MemPort.timed.not_expired {p : MemPort} (h : p.timed 1) : ∀ a ∈ p.access, a.expired = false := by
  intro a ha
  by_cases h0 : a.timeout = 0
  · simp [Access.expired, h0]
  · have := h a ha h0
    have hne : a.steps ≠ a.timeout.toNat := by omega
    simp [Access.expired, hne]

/-- After the expiry of an access that has come to its timeout, a step is left to the access granted behind it. -/
theorem State.expireAccess_timed {s : State} {a : Access} (ha : s.port.access = some a) (hexp : a.expired = true) :
    s.expireAccess.port.timed 1 :=
  (State.expireAccess_of_expired ha hexp).accessTimer 1 le_rfl (s.port.free_timed s.timeBase le_rfl)

/-- Once the port's expiry has come about no other is due. -/
theorem State.expireAccess_idem (s : State) : s.expireAccess.expireAccess = s.expireAccess := by
  by_cases h : ∀ a ∈ s.port.access, a.expired = false
  · rw [State.expireAccess_of_not h, State.expireAccess_of_not h]
  · push Not at h
    obtain ⟨a, ha, hexp⟩ := h
    exact State.expireAccess_of_not (State.expireAccess_timed ha (by simpa using hexp)).not_expired

theorem State.gateTimerExpired_of_none {s : State} (h : s.scu.commit = none) : s.gateTimerExpired = false := by
  rw [State.gateTimerExpired, h]

/-- The expiry of the gate timer leaves no commit pending (R65). -/
theorem State.expireGate_commit {s : State} (h : s.gateTimerExpired = true) : s.expireGate.scu.commit = none := by
  unfold State.expireGate
  rw [if_pos h]
  dsimp only
  split <;> rfl

theorem State.expireGate_idem (s : State) : s.expireGate.expireGate = s.expireGate := by
  cases h : s.gateTimerExpired
  case false => rw [State.expireGate_of_not h, State.expireGate_of_not h]
  case true => exact State.expireGate_of_not (State.gateTimerExpired_of_none (State.expireGate_commit h))

/-! ### An expiry and the pending commit -/

/-- The end that a failing access brings does nothing at the SCU (R63). -/
theorem State.endTransaction_failed_scu (s : State) (d : Decision) (o : TxnOutcome) (rs : List (EventSource × Word)) :
    (s.endTransaction d false o rs).scu = s.scu := by
  have hgate : ∀ x : State, (x.gateTest d false) = x := by
    intro x
    unfold State.gateTest opensGate
    split
    · rfl
    · simp
  simp only [State.endTransaction, hgate]
  exact (State.recordWith_scu _ _ _ (fun x => x.traceReport_scu _)).trans (State.countHit_scu _ d)

theorem State.hostFailed_scu (s : State) (rs : List (EventSource × Word)) : (s.hostFailed rs).scu = s.scu := by
  unfold State.hostFailed
  split
  · exact s.endTransaction_failed_scu _ _ _
  · exact s.raiseAll_scu rs

theorem State.loadFailed_commit (s : State) (reason : ParseReason) : (s.loadFailed reason).scu.commit = s.scu.commit := by
  unfold State.loadFailed
  dsimp only
  split <;> rfl

theorem State.loaderReadFailed_commit (s : State) : s.loaderReadFailed.scu.commit = s.scu.commit := by
  unfold State.loaderReadFailed
  split
  · exact s.loadFailed_commit _
  · exact s.loadFailed_commit _
  · rfl
  · rfl
  · rfl

/-- A verification that does not end OK asks for no commit (R53, R88). -/
theorem State.endVerification_commit (s : State) {r : VerifyResult} (h : r ≠ .ok) :
    (s.endVerification r).scu.commit = s.scu.commit := by
  unfold State.endVerification
  split
  · rfl
  · dsimp only
    split
    · rfl
    · rfl
    · rw [if_neg h]; rfl

theorem State.expireAccess_commit (s : State) : s.expireAccess.scu.commit = s.scu.commit := by
  have hraise (rs) : (s.freePort.raiseAll rs).scu = s.scu := State.raiseAll_scu _ rs
  unfold State.expireAccess
  split
  · rfl
  · split
    · split
      · rw [hraise]
      · split
        · exact congrArg Scu.commit (State.hostFailed_scu _ _)
        · rw [State.loaderReadFailed_commit, hraise]
        · rw [State.endVerification_commit _ (by decide), hraise]
    · rfl

theorem State.not_gateTimerExpired {s : State} (h : ∀ pc ∈ s.scu.commit, pc.deadline ≠ some s.timeBase) :
    s.gateTimerExpired = false := by
  unfold State.gateTimerExpired
  split
  · rfl
  case _ pc hpc => exact beq_eq_false_iff_ne.mpr (h pc hpc)

theorem Access.not_expired {a : Access} (h : a.timeout = 0 ∨ a.steps ≠ a.timeout.toNat) : a.expired = false := by
  unfold Access.expired
  obtain h | h := h <;> simp [h]

theorem exec_timeBaseStep {s : State} (h : s.inReset = false) :
    exec .timeBaseStep s = .next s.expireGate.expireAccess.tick := congrArg Host.Outcome.next (State.whenUp_of h _)

/-- Settles O5: each expiry comes about once, and the step of the counter is behind both. -/
theorem timeBaseStepCounts : Obligations.TimeBaseStepCounts := by
  intro s hs
  refine ⟨⟨_, exec_timeBaseStep hs, ?_⟩, fun hgate hacc => ?_, fun t ht => ?_, fun hgate t ht => ?_⟩
  · show s.expireGate.expireAccess.timeBase + 1 = _
    rw [(State.expireAccess_steady _).timeBase, State.expireGate_timeBase]
  · rw [exec_timeBaseStep hs, State.expireGate_of_not (State.not_gateTimerExpired hgate),
      State.expireAccess_of_not fun a ha => Access.not_expired (hacc a ha)]
    rfl
  · have ht : s.expireGate = t := Host.Outcome.next.inj ((congrArg _ (State.whenUp_of hs _)).symm.trans ht)
    have hup : t.inReset = false := by rw [← ht, s.expireGate_offBus.inReset, hs]
    rw [exec_timeBaseStep hs, exec_timeBaseStep hup, ← ht, State.expireGate_idem]
  · have ht : s.expireAccess = t := Host.Outcome.next.inj ((congrArg _ (State.whenUp_of hs _)).symm.trans ht)
    have hup : t.inReset = false := by rw [← ht, s.expireAccess_steady.inReset, hs]
    have hgate' : t.gateTimerExpired = false := by
      rw [← ht]
      refine State.not_gateTimerExpired ?_
      rw [State.expireAccess_commit, s.expireAccess_steady.timeBase]
      exact hgate
    rw [exec_timeBaseStep hs, exec_timeBaseStep hup, State.expireGate_of_not hgate', ← ht, State.expireAccess_idem,
      State.expireGate_of_not (State.not_gateTimerExpired hgate)]

/-! ### Requests of the host (R111, R112, R119) -/

/-- While a transaction is in flight no boundary stands, so nothing that waits for one happens. -/
theorem exec_effect_of_inFlight {s : State} (h : s.inFlight = true) :
    exec .effectPoint s = .next s ∧ exec .revertEffect s = .next s ∧ exec .serviceReset s = .next s := by
  have up {f : State → State} (hf : f s = s) : Host.Outcome.next (s.whenUp f) = (Host.Outcome.next s : Result) := by
    unfold State.whenUp
    split
    · rfl
    · rw [hf]
  refine ⟨up ?_, up ?_, up ?_⟩
  · simp [h]
  · dsimp only
    split
    · rfl
    · simp [h]
  · simp [h]

theorem State.accepts_of_wait {s : State}
    (h : s.hbi.held = true ∨ s.commitDue = true ∨ s.svp.executing.isSome = true) : s.accepts = false := by
  unfold State.accepts State.effectDue
  obtain h | h | h := h <;> simp [h]

/-- Settles O6: the transaction state decides a request, and acceptance tests the hold and the effects due. -/
theorem requestsAndEffectsWait : Obligations.RequestsAndEffectsWait := by
  refine ⟨⟨fun s r hs hidle => ?_, fun s r t hs hfl => ?_, fun s r hs hw => ?_⟩, fun s h => exec_effect_of_inFlight h,
    fun s us h => ?_⟩
  · refine (congrArg Host.Outcome.next (State.whenUp_of hs _)).trans ?_
    simp only [hidle]
  · refine (congrArg Host.Outcome.next (State.whenUp_of hs _)).trans ?_
    simp only [hfl]
  · refine (congrArg Host.Outcome.next (State.whenUp_of hs _)).trans ?_
    simp only [hw]
  · show Host.Outcome.next (s.whenUp _) = _
    unfold State.whenUp
    split
    · rfl
    · dsimp only
      split
      · simp [State.accepts_of_wait h]
      · rfl

/-! ### The blocks at rest after a reset -/

theorem Table.entries_empty : Table.empty.entries = [] := by
  simp [Table.entries, Table.empty]

theorem Table.refs_empty (l : LineIdx) : Table.empty.refs l = 0 := by rw [Table.refs, Table.entries_empty]; rfl

theorem Table.keyed_empty : Table.empty.keyed := by
  simp [Table.keyed, Table.entries_empty]

/-- The blocks of tables, sets, loader, port and host bus as a reset leaves them, before the start-up behaviour: nothing in
the tables, no line referenced, nothing in progress but an access that runs on for no one. -/
structure State.Fresh (s : State) : Prop where
  tables    : s.tables = State.reset.tables
  roles     : s.roles = State.reset.roles
  scu       : s.scu = Scu.reset
  loader    : s.loader = Loader.reset
  executing : s.svp.executing = none
  lines     : ∀ l : LineIdx, s.store.lines[l].refCount = 0 ∧ s.store.lines[l].bad = false
  freeList  : s.store.freeList = List.finRange 256
  badList   : s.store.badList = []
  idle      : s.inFlight = false
  access    : ∀ a ∈ s.port.access, a.givenUp = true
  waiting   : s.port.host = none ∧ s.port.loader = none ∧ s.port.verifier = none

theorem State.Fresh.table {s : State} (h : s.Fresh) (r : Role) : s.table r = Table.empty := by
  rw [State.table, h.tables]
  exact Tables.get_reset _

theorem State.Fresh.accounted {s : State} (h : s.Fresh) : s.accounted := by
  have hrefs (l : LineIdx) : s.tables.a.refs l = 0 ∧ s.tables.b.refs l = 0 ∧ s.tables.c.refs l = 0 := by
    rw [h.tables]
    exact ⟨Table.refs_empty l, Table.refs_empty l, Table.refs_empty l⟩
  refine ⟨fun l => ?_, fun l => ?_, ?_, ?_, fun l => ?_, fun l => ?_⟩
  · obtain ⟨ha, hb, hc⟩ := hrefs l
    rw [(h.lines l).1, Tables.refs, ha, hb, hc]
  · obtain ⟨ha, hb, hc⟩ := hrefs l
    simp [Tables.exclusive, ha, hb, hc]
  · rw [h.freeList]; exact List.nodup_finRange 256
  · rw [h.badList]; exact List.nodup_nil
  · simp only [h.freeList, List.mem_finRange, h.lines l, and_self]
  · rw [h.badList, (h.lines l).2]; simp

theorem State.Fresh.revertWaits {s : State} (h : s.Fresh) : s.revertWaits = false := by
  rw [State.revertWaits, h.executing]

theorem State.Fresh.controlled {s : State} (h : s.Fresh) : s.controlled := by
  refine ⟨?_, ?_, ⟨?_, ?_, ?_, ?_, ?_⟩, ⟨?_, ?_, ?_⟩, ⟨?_, ?_, ?_, ?_, ?_⟩⟩
  · rw [h.roles]; decide
  · rw [h.scu]; exact h.table _
  all_goals simp [h.scu, h.loader, Scu.reset, Loader.reset, State.startUpInHand, h.revertWaits]

theorem State.Fresh.portFits {s : State} (h : s.Fresh) : s.portFits := by
  obtain ⟨hhost, hloader, hverifier⟩ := h.waiting
  have hnone (who : Requester) : (s.port.access.any fun a => a.who == who && !a.givenUp) = false := by
    rw [Option.any_eq_false]
    intro a ha
    simp [h.access a ha]
  refine ⟨fun a ha hg => ?_, fun _ => h.waiting, ?_, ?_, ?_⟩
  · rw [h.access a ha] at hg; cases hg
  all_goals simp [MemPort.holds, hhost, hloader, hverifier, hnone, h.idle, h.scu, Scu.reset]

theorem State.Fresh.wf {s : State} (h : s.Fresh) : s.wf where
  controlled := h.controlled
  keyed := by rw [h.tables]; exact ⟨Table.keyed_empty, Table.keyed_empty, Table.keyed_empty⟩
  accounted := h.accounted
  heldIdle := fun _ => h.idle
  txnFits := by
    have := h.idle
    unfold State.inFlight at this
    unfold State.txnFits
    split <;> simp_all
  portFits := h.portFits

theorem State.fresh_reset : State.reset.Fresh where
  tables := rfl
  roles := rfl
  scu := rfl
  loader := rfl
  executing := rfl
  lines l := by simp [State.reset, LineStore.reset, StoreLine.reset]
  freeList := by simp only [State.reset, LineStore.reset]
  badList := rfl
  idle := rfl
  access _ ha := nomatch ha
  waiting := ⟨rfl, rfl, rfl⟩

/-- Settles O60: after reset nothing is in progress. -/
theorem resetMeetsInvariants : Obligations.ResetMeetsInvariants := by
  refine ⟨State.fresh_reset.wf, ?_, ?_, ?_, fun i => ?_, ⟨?_, ?_⟩, ?_, ?_⟩
  · simp [State.reset, TraceUnit.reset, TraceUnit.fits]
  · show EventUnit.reset.fits
    decide
  · show ServicePort.reset.fits
    decide
  · have hrec : State.reset.regions.records[i] = RegionRecord.reset := by simp [State.reset, RegionTable.reset]
    rw [hrec]
    decide
  · exact fun a ha => nomatch ha
  · exact fun pc hpc => nomatch hpc
  · exact fun _ hss => nomatch hss
  · exact fun o ho => nomatch ho

end Sys2Proof.Machine
end

section
/-! PROOF. The end of a transaction: its raises, its report at the trace unit, the gate test (O13, O29, O48). -/

namespace Sys2Proof.Machine

open Sys2Proof

set_option Elab.async false

/-! ### Raises in order (R152) -/

/-- The raises of one source among several, in order. -/
def raisesOf (i : Fin 14) (rs : List (EventSource × Word)) : List (EventSource × Word) := rs.filter fun r => r.1.index == i

/-- A source after several raises. -/
def SourceState.raisedBy (x : SourceState) (rs : List (EventSource × Word)) : SourceState :=
  rs.foldl (fun x r => x.raised r.2) x

/-- Several raises reach each source in their order. -/
theorem State.raiseAll_source (s : State) (rs : List (EventSource × Word)) (i : Fin 14) :
    (s.raiseAll rs).events.sources[i] = s.events.sources[i].raisedBy (raisesOf i rs) := by
  induction rs generalizing s with
  | nil => rfl
  | cons r rs ih =>
    rw [State.raiseAll_cons, ih]
    by_cases h : i = r.1.index
    · subst h
      rw [State.raise_events, EventUnit.raise_source]
      simp [raisesOf, SourceState.raisedBy]
    · rw [State.raise_events, EventUnit.raise_other _ _ _ _ h]
      have : ¬ (r.1.index = i) := fun g => h g.symm
      simp [raisesOf, this]

theorem State.raiseAll_inService (s : State) (rs : List (EventSource × Word)) :
    (s.raiseAll rs).events.inService = s.events.inService := by
  induction rs generalizing s with
  | nil => rfl
  | cons r rs ih => rw [State.raiseAll_cons, ih]; rfl

@[simp] theorem raisesOf_append (i : Fin 14) (rs qs : List (EventSource × Word)) :
    raisesOf i (rs ++ qs) = raisesOf i rs ++ raisesOf i qs := List.filter_append ..

/-- The one raise that counts, when the raises of a source are that raise or none. -/
theorem SourceState.raisedBy_if (x : SourceState) (c : Prop) [Decidable c] (src : EventSource) (d : Word) :
    x.raisedBy (if c then [(src, d)] else []) = if c then x.raised d else x := by
  split <;> rfl

theorem raisesOf_self (src : EventSource) (d : Word) : raisesOf src.index [(src, d)] = [(src, d)] := by
  simp [raisesOf]

theorem raisesOf_ne {i : Fin 14} {src : EventSource} (h : src.index ≠ i) (d : Word) : raisesOf i [(src, d)] = [] := by
  simp [raisesOf, h]

/-! ### The trace unit and a report (R118, R136, R137) -/

/-- An arrival raises nothing but TRACE_STOPPED. -/
theorem State.traceTake_source (s : State) (b : TraceBody) (f : Bool) {i : Fin 14} (h : i ≠ EventSource.traceStopped.index) :
    (s.traceTake b f).events.sources[i] = s.events.sources[i] := by
  unfold State.traceTake
  dsimp only
  split
  · rfl
  · exact EventUnit.raise_other _ _ _ _ h

theorem State.traceTake_inService (s : State) (b : TraceBody) (f : Bool) :
    (s.traceTake b f).events.inService = s.events.inService := by
  unfold State.traceTake
  dsimp only
  split <;> rfl

theorem State.traceReport_source (s : State) (r : EndReport) {i : Fin 14} (h : i ≠ EventSource.traceStopped.index) :
    (s.traceReport r).events.sources[i] = s.events.sources[i] := by
  unfold State.traceReport
  split
  · exact s.traceTake_source _ _ h
  · rfl

theorem State.traceReport_inService (s : State) (r : EndReport) :
    (s.traceReport r).events.inService = s.events.inService := by
  unfold State.traceReport
  split
  · exact s.traceTake_inService _ _
  · rfl

/-- What an arrival does at the trace unit depends on the trace unit only. -/
theorem State.traceTake_trace_congr {s t : State} (h : s.trace = t.trace) (b : TraceBody) (f : Bool) :
    (s.traceTake b f).trace = (t.traceTake b f).trace := by
  unfold State.traceTake
  rw [h]
  dsimp only
  split
  · rfl
  · simp

theorem State.traceReport_trace_congr {s t : State} (h : s.trace = t.trace) (r : EndReport) :
    (s.traceReport r).trace = (t.traceReport r).trace := by
  unfold State.traceReport
  rw [h]
  split
  · exact State.traceTake_trace_congr h _ _
  · exact h

/-- A report does not arm the trace unit, and keeps its configuration. -/
theorem State.traceReport_unarmed (s : State) (r : EndReport) :
    ((s.traceReport r).trace.state = .armed → s.trace.state = .armed) ∧
    (s.traceReport r).trace.config = s.trace.config := by
  unfold State.traceReport State.traceTake TraceUnit.take State.raise TraceUnit.notice
  split
  · cases hs : s.trace.state <;> simp only <;> repeat' split
    all_goals simp_all [TraceUnit.append]
  · exact ⟨id, rfl⟩

/-- A unit that is not armed, or has no trigger source, gives no notice of a raise. -/
def TraceUnit.deaf (t : TraceUnit) : Prop := t.state ≠ .armed ∨ t.config.source = none

theorem TraceUnit.deaf.notice {t : TraceUnit} (h : t.deaf) (src : EventSource) : t.notice src = t :=
  TraceUnit.notice_eq (h.imp id fun hn => by simp [hn])

theorem State.raiseAll_trace {s : State} (h : s.trace.deaf) (rs : List (EventSource × Word)) :
    (s.raiseAll rs).trace = s.trace := by
  induction rs generalizing s with
  | nil => rfl
  | cons r rs ih =>
    have hr : (s.raise r.1 r.2).trace = s.trace := h.notice _
    rw [State.raiseAll_cons, ih (hr ▸ h), hr]

theorem State.orderShows_of_deaf {s : State} (h : s.trace.deaf) (rs : List (EventSource × Word)) :
    s.orderShows rs = false := by
  unfold State.orderShows
  obtain h | h := h <;> simp [h]

/-- A report with raises at a unit that hears no raise: the report alone reaches it. -/
theorem State.recordWith_report_trace {s : State} (h : s.trace.deaf) (r : EndReport) (rs : List (EventSource × Word)) :
    (s.recordWith (fun s => s.traceReport r) rs).trace = (s.traceReport r).trace := by
  obtain ⟨hun, hcfg⟩ := s.traceReport_unarmed r
  have hdeaf : (s.traceReport r).trace.deaf := h.imp (fun hn ha => hn (hun ha)) fun hn => hcfg ▸ hn
  simp only [State.recordWith, State.orderShows_of_deaf h, Bool.false_eq_true, if_false]
  exact State.raiseAll_trace hdeaf rs

/-- An operation that touches no event source but TRACE_STOPPED: a record that reaches the trace unit. -/
def RaisesOnlyStop (record : State → State) : Prop :=
  ∀ x : State, (∀ i : Fin 14, i ≠ EventSource.traceStopped.index → (record x).events.sources[i] = x.events.sources[i]) ∧
    (record x).events.inService = x.events.inService

/-- With a record, the raises are all that reaches the sources but TRACE_STOPPED. -/
theorem State.recordWith_source {record : State → State} (hrec : RaisesOnlyStop record) (s : State)
    (rs : List (EventSource × Word)) {i : Fin 14} (h : i ≠ EventSource.traceStopped.index) :
    (s.recordWith record rs).events.sources[i] = s.events.sources[i].raisedBy (raisesOf i rs) := by
  unfold State.recordWith
  split
  · split
    · rw [State.raiseAll_source, (hrec _).1 i h]
    · rw [(hrec _).1 i h, State.raiseAll_source]
  · rw [State.raiseAll_source, (hrec _).1 i h]

theorem State.recordWith_inService {record : State → State} (hrec : RaisesOnlyStop record) (s : State)
    (rs : List (EventSource × Word)) : (s.recordWith record rs).events.inService = s.events.inService := by
  unfold State.recordWith
  split
  · split
    · rw [State.raiseAll_inService, (hrec _).2]
    · rw [(hrec _).2, State.raiseAll_inService]
  · rw [State.raiseAll_inService, (hrec _).2]

theorem raisesOnlyStop_report (r : EndReport) : RaisesOnlyStop fun s => s.traceReport r :=
  fun x => ⟨fun _ h => x.traceReport_source r h, x.traceReport_inService r⟩

/-! ### The end of a transaction, field by field (R15 to R19, R112, R117, R118) -/

theorem State.gateTest_scu (s : State) (d : Decision) (okay : Bool) :
    (s.gateTest d okay).scu = { s.scu with commit := (s.gateTest d okay).scu.commit } := by
  unfold State.gateTest
  split
  · rfl
  · split <;> rfl

/-- The state in which the raises and the report of an end come: with the strobe of an ERROR end. -/
def State.endStrobed (s : State) (okay : Bool) : State := if okay then s else s.strobe errorStrobe

theorem State.endStrobed_eq (s : State) (okay : Bool) :
    s.endStrobed okay = { s with hbi := { s.hbi with strobes :=
      if okay then s.hbi.strobes else s.hbi.strobes ++ [{ hrd := some 0, hstb := false, hend := true, herr := true }] } } := by
  cases okay <;> rfl

/-- The state of an end before its gate test. -/
def State.endRecorded (s : State) (d : Decision) (okay : Bool) (outcome : TxnOutcome) (before : List (EventSource × Word)) :
    State :=
  ((s.endStrobed okay).countHit d).recordWith (fun x => x.traceReport ((s.endStrobed okay).endReport d outcome))
    (before ++ endRaises (s.matchedEntry d) d outcome)

theorem State.matchedEntry_endStrobed (s : State) (d : Decision) (okay : Bool) :
    (s.endStrobed okay).matchedEntry d = s.matchedEntry d := by cases okay <;> rfl

theorem State.endTransaction_eq (s : State) (d : Decision) (okay : Bool) (outcome : TxnOutcome)
    (before : List (EventSource × Word)) :
    s.endTransaction d okay outcome before = ((s.endRecorded d okay outcome before).gateTest d okay).leaveFlight := by
  rw [State.endRecorded, ← s.matchedEntry_endStrobed d okay]
  rfl

section
variable (s : State) (d : Decision) (okay : Bool) (outcome : TxnOutcome) (before : List (EventSource × Word))

theorem State.endRecorded_keeps :
    (s.endRecorded d okay outcome before).hbi = (s.endStrobed okay).hbi ∧
    (s.endRecorded d okay outcome before).roles = s.roles ∧ (s.endRecorded d okay outcome before).store = s.store ∧
    (s.endRecorded d okay outcome before).port = s.port ∧ (s.endRecorded d okay outcome before).regions = s.regions ∧
    (s.endRecorded d okay outcome before).loader = s.loader ∧ (s.endRecorded d okay outcome before).svp = s.svp ∧
    (s.endRecorded d okay outcome before).timeBase = s.timeBase ∧
    (s.endRecorded d okay outcome before).straps = s.straps ∧
    (s.endRecorded d okay outcome before).inReset = s.inReset ∧ (s.endRecorded d okay outcome before).scu = s.scu ∧
    (s.endRecorded d okay outcome before).tables = (s.countHit d).tables := by
  unfold State.endRecorded
  refine ⟨?_, ?_, ?_, ?_, ?_, ?_, ?_, ?_, ?_, ?_, ?_, ?_⟩
  · rw [State.recordWith_hbi _ _ _ fun _ => State.traceReport_hbi _ _, State.countHit_hbi]
  · rw [State.recordWith_roles _ _ _ fun _ => State.traceReport_roles _ _, State.countHit_roles]; cases okay <;> rfl
  · rw [State.recordWith_store _ _ _ fun _ => State.traceReport_store _ _, State.countHit_store]; cases okay <;> rfl
  · rw [State.recordWith_port _ _ _ fun _ => State.traceReport_port _ _, State.countHit_port]; cases okay <;> rfl
  · rw [State.recordWith_regions _ _ _ fun _ => State.traceReport_regions _ _, State.countHit_regions]; cases okay <;> rfl
  · rw [State.recordWith_loader _ _ _ fun _ => State.traceReport_loader _ _, State.countHit_loader]; cases okay <;> rfl
  · rw [State.recordWith_svp _ _ _ fun _ => State.traceReport_svp _ _, State.countHit_svp]; cases okay <;> rfl
  · rw [State.recordWith_timeBase _ _ _ fun _ => State.traceReport_timeBase _ _, State.countHit_timeBase]
    cases okay <;> rfl
  · rw [State.recordWith_straps _ _ _ fun _ => State.traceReport_straps _ _, State.countHit_straps]; cases okay <;> rfl
  · rw [State.recordWith_inReset _ _ _ fun _ => State.traceReport_inReset _ _, State.countHit_inReset]
    cases okay <;> rfl
  · rw [State.recordWith_scu _ _ _ fun _ => State.traceReport_scu _ _, State.countHit_scu]; cases okay <;> rfl
  · rw [State.recordWith_tables _ _ _ fun _ => State.traceReport_tables _ _]
    unfold State.countHit
    rw [State.matchedEntry_endStrobed]
    cases okay
    · split
      · split <;> rfl
      · rfl
    · rfl
end

theorem State.leaveFlight_hbi (s : State) :
    s.leaveFlight.hbi = { s.hbi with
      state := match s.hbi.nextRequest with
        | none => .idle
        | some q => .waiting q
      nextRequest := none } := rfl

theorem State.endTransaction_hbi (s : State) (d : Decision) (okay : Bool) (outcome : TxnOutcome)
    (before : List (EventSource × Word)) :
    (s.endTransaction d okay outcome before).hbi = { s.hbi with
      state := match s.hbi.nextRequest with
        | none => .idle
        | some q => .waiting q
      nextRequest := none
      strobes := if okay then s.hbi.strobes
        else s.hbi.strobes ++ [{ hrd := some 0, hstb := false, hend := true, herr := true }] } := by
  obtain ⟨hhbi, -⟩ := s.endRecorded_keeps d okay outcome before
  rw [State.endTransaction_eq, State.leaveFlight_hbi, State.gateTest_hbi, hhbi, State.endStrobed_eq]

/-- A source but TRACE_STOPPED after the end of a transaction: raised by the failing access and by what the end brings. -/
theorem State.endTransaction_source (s : State) (d : Decision) (okay : Bool) (outcome : TxnOutcome)
    (before : List (EventSource × Word)) {i : Fin 14} (h : i ≠ EventSource.traceStopped.index) :
    (s.endTransaction d okay outcome before).events.sources[i] =
      s.events.sources[i].raisedBy (raisesOf i before ++ raisesOf i (endRaises (s.matchedEntry d) d outcome)) := by
  rw [State.endTransaction_eq, State.leaveFlight_events, State.gateTest_events, State.endRecorded,
    State.recordWith_source (raisesOnlyStop_report _) _ _ h, raisesOf_append, State.countHit_events]
  cases okay <;> rfl

theorem State.endTransaction_inService (s : State) (d : Decision) (okay : Bool) (outcome : TxnOutcome)
    (before : List (EventSource × Word)) :
    (s.endTransaction d okay outcome before).events.inService = s.events.inService := by
  rw [State.endTransaction_eq, State.leaveFlight_events, State.gateTest_events, State.endRecorded,
    State.recordWith_inService (raisesOnlyStop_report _), State.countHit_events]
  cases okay <;> rfl

/-- The trace unit after the end of a transaction, where the order of report and raises does not show. -/
theorem State.endTransaction_trace {s : State} (h : s.trace.deaf) (d : Decision) (okay : Bool) (outcome : TxnOutcome)
    (before : List (EventSource × Word)) :
    (s.endTransaction d okay outcome before).trace = (s.traceReport (s.endReport d outcome)).trace := by
  have htrace : ((s.endStrobed okay).countHit d).trace = s.trace := by rw [State.countHit_trace]; cases okay <;> rfl
  have hreport : (s.endStrobed okay).endReport d outcome = s.endReport d outcome := by cases okay <;> rfl
  rw [State.endTransaction_eq, State.leaveFlight_trace, State.gateTest_trace, State.endRecorded,
    State.recordWith_report_trace (htrace ▸ h), hreport]
  exact State.traceReport_trace_congr htrace _

/-! ### The raises an end brings, source by source (R16, R17, R18, R104) -/

/-- The raises of a hit, when it is counted. -/
def Entry.countedRaises (e : Entry) (write : Bool) : List (EventSource × Word) := if e.counts write then e.hitRaises else []

theorem endRaises_none (d : Decision) (o : TxnOutcome) :
    endRaises none d o = if o = .blocked ∨ o = .refused then [(.accessRefused, hostByteWord d.addr)] else [] := by
  simp [endRaises]

theorem endRaises_some (e : Entry) (d : Decision) (o : TxnOutcome) :
    endRaises (some e) d o = (e.countedRaises d.write ++
      if d.write && e.patches then [(.writeUnderPatch, hostByteWord d.addr)] else []) ++ endRaises none d o := by
  simp [endRaises, Entry.countedRaises]

theorem raisesOf_if (i : Fin 14) (c : Prop) [Decidable c] (rs : List (EventSource × Word)) :
    raisesOf i (if c then rs else []) = if c then raisesOf i rs else [] := by
  split <;> rfl

/-- A hit raises FIRST_HIT and WATCH_REACHED, when they are due. -/
theorem Entry.hitRaises_eq (e : Entry) :
    e.hitRaises = (if e.hitCount = 0 ∧ e.reportFirstHit = true then [(.firstHit, BitVec.ofNat 32 e.line.toNat)] else []) ++
      if (match e.body with
          | .watch th _ => th != 0 && e.hitCount.toNat + 1 == th.toNat
          | _ => false) = true
      then [(.watchReached, BitVec.ofNat 32 e.line.toNat)] else [] := by
  have hline : e.line.setWidth 32 = BitVec.ofNat 32 e.line.toNat := BitVec.eq_of_toNat_eq (by simp)
  have hreached (th : BitVec 16) :
      (satHit e.hitCount ≠ e.hitCount ∧ satHit e.hitCount = th ∧ th ≠ 0) ↔
        (th != 0 && e.hitCount.toNat + 1 == th.toNat) = true := by
    simp only [Bool.and_eq_true, bne_iff_ne, beq_iff_eq, satHit]
    split
    case isTrue h => rw [h]; have := th.isLt; simp; omega
    case isFalse h => constructor <;> intro g <;> refine ⟨?_, ?_⟩ <;> bv_omega
  unfold Entry.hitRaises
  rw [hline]
  cases e.body with
  | substitute m l => simp
  | redirect ce t => simp
  | watch th dir => simp only [hreached]


theorem State.endReport_eq (s : State) (d : Decision) (o : TxnOutcome) :
    s.endReport d o =
      { addr := d.addr, write := d.write, fetch := d.fetch, len := d.len, region := d.region.record,
        trace := d.region.trace, slot := d.slot, generation := d.generation, outcome := o, time := s.timeBase
        underPatch := d.write && (match s.matchedEntry d with
          | none => false
          | some e => match e.body with
            | .watch _ _ => false
            | _ => true) } := by
  unfold State.endReport
  cases h : s.matchedEntry d <;> rfl

theorem State.countHit_of_none {s : State} {d : Decision} (h : s.matchedEntry d = none) : s.countHit d = s := by
  unfold State.countHit
  rw [h]
  split
  · contradiction
  · rfl

theorem State.countHit_of_some {s : State} {d : Decision} {i : Slot} {e : Entry} (hi : d.slot = some i)
    (he : s.matchedEntry d = some e) :
    (s.countHit d).tables =
      if e.counts d.write then
        s.tables.set ((s.tables.get d.letter).setSlot i
          (some { e with hitCount := if e.hitCount = 65535 then 65535 else e.hitCount + 1 })) d.letter
      else s.tables := by
  have hsat : satHit e.hitCount = if e.hitCount = 65535 then 65535 else e.hitCount + 1 := by
    unfold satHit
    split
    case isTrue h => exact h
    case isFalse => rfl
  unfold State.countHit
  rw [hi, he, ← hsat]
  dsimp only
  split <;> rfl

/-- The raises of each lookup source at an end with a matched entry, and ACCESS_REFUSED at any. -/
theorem raisesOf_endRaises (e : Entry) (d : Decision) (o : TxnOutcome) :
    raisesOf EventSource.firstHit.index (endRaises (some e) d o) =
      (if e.counts d.write ∧ e.hitCount = 0 ∧ e.reportFirstHit = true then
        [(.firstHit, BitVec.ofNat 32 e.line.toNat)] else []) ∧
    raisesOf EventSource.watchReached.index (endRaises (some e) d o) =
      (if e.counts d.write ∧
          (match e.body with
            | .watch th _ => th != 0 && e.hitCount.toNat + 1 == th.toNat
            | _ => false) = true then
        [(.watchReached, BitVec.ofNat 32 e.line.toNat)] else []) ∧
    raisesOf EventSource.writeUnderPatch.index (endRaises (some e) d o) =
      (if d.write = true ∧ e.patches = true then [(.writeUnderPatch, hostByteWord d.addr)] else []) := by
  rw [endRaises_some, endRaises_none, Entry.countedRaises, Entry.hitRaises_eq]
  refine ⟨?_, ?_, ?_⟩
  all_goals
    simp only [raisesOf_append, raisesOf_if, raisesOf_self, Bool.and_eq_true]
  · rw [raisesOf_ne (by decide), raisesOf_ne (by decide), raisesOf_ne (by decide)]
    simp [ite_and]
  · rw [raisesOf_ne (by decide), raisesOf_ne (by decide), raisesOf_ne (by decide)]
    simp [ite_and]
  · rw [raisesOf_ne (by decide), raisesOf_ne (by decide), raisesOf_ne (by decide)]
    simp [ite_and]

theorem raisesOf_endRaises_refused (e : Option Entry) (d : Decision) (o : TxnOutcome) :
    raisesOf EventSource.accessRefused.index (endRaises e d o) =
      if o = .blocked ∨ o = .refused then [(.accessRefused, hostByteWord d.addr)] else [] := by
  cases e with
  | none => rw [endRaises_none, raisesOf_if, raisesOf_self]
  | some e =>
    rw [endRaises_some, endRaises_none, Entry.countedRaises, Entry.hitRaises_eq]
    simp only [raisesOf_append, raisesOf_if, raisesOf_self]
    rw [raisesOf_ne (by decide), raisesOf_ne (by decide), raisesOf_ne (by decide)]
    simp

/-- An end raises no source beside the lookup sources and ACCESS_REFUSED. -/
theorem raisesOf_endRaises_other (e : Option Entry) (d : Decision) (o : TxnOutcome) {i : Fin 14}
    (h : i ∉ [EventSource.firstHit.index, EventSource.watchReached.index, EventSource.writeUnderPatch.index,
      EventSource.accessRefused.index]) : raisesOf i (endRaises e d o) = [] := by
  simp only [List.mem_cons, List.not_mem_nil, or_false, not_or] at h
  obtain ⟨h1, h2, h3, h4⟩ := h
  cases e with
  | none => rw [endRaises_none, raisesOf_if, raisesOf_ne (Ne.symm h4), ite_self]
  | some e =>
    rw [endRaises_some, endRaises_none, Entry.countedRaises, Entry.hitRaises_eq]
    simp only [raisesOf_append, raisesOf_if]
    rw [raisesOf_ne (Ne.symm h1), raisesOf_ne (Ne.symm h2), raisesOf_ne (Ne.symm h3), raisesOf_ne (Ne.symm h4)]
    simp

/-- The raise of the access whose failure ends a transaction, at a source of its own. -/
theorem raisesOf_before {before : List (EventSource × Word)}
    (hb : before = [] ∨ ∃ detail, before = [(.downstreamTimeout, detail)]) {i : Fin 14}
    (h : i ≠ EventSource.downstreamTimeout.index) : raisesOf i before = [] := by
  obtain rfl | ⟨w, rfl⟩ := hb
  · rfl
  · exact raisesOf_ne (Ne.symm h) w

/-- Settles O13: field by field. -/
theorem endOfTransaction : Obligations.EndOfTransaction := by
  intro s t d okay outcome before hb ht
  subst ht
  obtain ⟨-, hroles, hstore, hport, hregions, hloader, hsvp, htime, hstraps, hup, hscu, htables⟩ :=
    s.endRecorded_keeps d okay outcome before
  have hsource {i : Fin 14} (h1 : i ≠ EventSource.traceStopped.index) (h2 : i ≠ EventSource.downstreamTimeout.index) :
      (s.endTransaction d okay outcome before).events.sources[i] =
        s.events.sources[i].raisedBy (raisesOf i (endRaises (s.matchedEntry d) d outcome)) := by
    rw [s.endTransaction_source d okay outcome before h1, raisesOf_before hb h2, List.nil_append]
  have htimeout : (s.endTransaction d okay outcome before).events.sources[EventSource.downstreamTimeout.index] =
      s.events.sources[EventSource.downstreamTimeout.index].raisedBy
        (raisesOf EventSource.downstreamTimeout.index before) := by
    rw [s.endTransaction_source d okay outcome before (by decide), raisesOf_endRaises_other _ d outcome (by decide),
      List.append_nil]
  have hnone (h : s.matchedEntry d = none) {i : Fin 14} (h1 : i ≠ EventSource.traceStopped.index)
      (h2 : i ≠ EventSource.downstreamTimeout.index) (h3 : i ≠ EventSource.accessRefused.index) :
      (s.endTransaction d okay outcome before).events.sources[i] = s.events.sources[i] := by
    rw [hsource h1 h2, h, endRaises_none, raisesOf_if, raisesOf_ne (Ne.symm h3), ite_self]
    rfl
  have htables : (s.endTransaction d okay outcome before).tables = (s.countHit d).tables := by
    rw [State.endTransaction_eq, State.leaveFlight_tables, State.gateTest_tables, htables]
  refine ⟨s.endTransaction_hbi d okay outcome before, ?_, ?_, ?_, ?_, ?_, ?_, ?_, ?_, ?_, ?_,
    s.endTransaction_inService d okay outcome before, fun h report hr => ?_, fun i h => ?_, fun h => ?_,
    fun w h => ?_, ?_, fun h => ?_, fun i e hi he => ?_⟩
  · rw [State.endTransaction_eq]; simpa using hroles
  · rw [State.endTransaction_eq]; simpa using hstore
  · rw [State.endTransaction_eq]; simpa using hport
  · rw [State.endTransaction_eq]; simpa using hregions
  · rw [State.endTransaction_eq]; simpa using hloader
  · rw [State.endTransaction_eq]; simpa using hsvp
  · rw [State.endTransaction_eq]; simpa using htime
  · rw [State.endTransaction_eq]; simpa using hstraps
  · rw [State.endTransaction_eq]; simpa using hup
  · rw [State.endTransaction_eq, State.leaveFlight_scu, State.gateTest_scu, hscu]
  · subst hr
    exact (State.endTransaction_trace h d okay outcome before).trans
      (congrArg (fun x => (s.traceReport x).trace) (s.endReport_eq d outcome))
  · simp only [List.mem_cons, List.not_mem_nil, or_false, not_or] at h
    obtain ⟨h1, h2, h3, h4, h5, h6⟩ := h
    rw [hsource h6 h5, raisesOf_endRaises_other _ d outcome (by simp [h1, h2, h3, h4])]
    rfl
  · rw [htimeout, h]
    rfl
  · rw [htimeout, h, raisesOf_self]
    rfl
  · rw [hsource (by decide) (by decide), raisesOf_endRaises_refused, SourceState.raisedBy_if]
    rfl
  · exact ⟨by rw [htables, State.countHit_of_none h], hnone h (by decide) (by decide) (by decide),
      hnone h (by decide) (by decide) (by decide), hnone h (by decide) (by decide) (by decide)⟩
  · obtain ⟨hfirst, hwatch, hunder⟩ := raisesOf_endRaises e d outcome
    refine ⟨htables.trans (State.countHit_of_some hi he), ?_, ?_, ?_⟩
    · rw [hsource (by decide) (by decide), he, hfirst]
      exact SourceState.raisedBy_if _ _ _ _
    · rw [hsource (by decide) (by decide), he, hwatch]
      exact SourceState.raisedBy_if _ _ _ _
    · rw [hsource (by decide) (by decide), he, hunder]
      exact SourceState.raisedBy_if _ _ _ _


/-! ### The gate test (R63, R64, R65) -/

theorem opensGate_iff {pc : PendingCommit} {d : Decision} {okay : Bool} (hg : pc.gateOpen = false) :
    opensGate pc d okay = true ↔
      pc.args.mode = .gated ∧ d.write = false ∧ d.fetch = true ∧ okay = true ∧
        pc.args.gateBase.toNat ≤ d.addr.toNat / 8 ∧ d.addr.toNat / 8 < pc.args.gateBase.toNat + pc.args.gateLength := by
  simp only [opensGate, hg, lineOf_toNat, Bool.and_eq_true, beq_iff_eq, Bool.not_eq_true', decide_eq_true_eq, and_assoc]
  simp

theorem State.gateTimerExpired_iff {s : State} {pc : PendingCommit} (h : s.scu.commit = some pc) :
    s.gateTimerExpired = true ↔ pc.deadline = some s.timeBase := by
  rw [State.gateTimerExpired, h]
  exact beq_iff_eq

theorem State.gateTest_of_none {s : State} (h : s.scu.commit = none) (d : Decision) (okay : Bool) :
    s.gateTest d okay = s := by
  rw [State.gateTest, h]

theorem State.gateTest_of_some {s : State} {pc : PendingCommit} (h : s.scu.commit = some pc) (d : Decision) (okay : Bool) :
    (s.gateTest d okay).scu =
      if opensGate pc d okay = true ∧ ¬ pc.deadline = some s.timeBase then
        { s.scu with commit := some { pc with gateOpen := true, deadline := none } }
      else s.scu := by
  unfold State.gateTest
  rw [h]
  simp only [Bool.and_eq_true, Bool.not_eq_true', ← State.gateTimerExpired_iff h, Bool.not_eq_true]
  split <;> rfl

/-- What the end of a transaction does at the SCU is its gate test. -/
theorem State.endTransaction_gate (s : State) (d : Decision) (okay : Bool) (outcome : TxnOutcome)
    (before : List (EventSource × Word)) : (s.endTransaction d okay outcome before).scu = (s.gateTest d okay).scu := by
  obtain ⟨-, -, -, -, -, -, -, htime, -, -, hscu, -⟩ := s.endRecorded_keeps d okay outcome before
  rw [State.endTransaction_eq, State.leaveFlight_scu]
  cases h : s.scu.commit with
  | none => rw [State.gateTest_of_none h, State.gateTest_of_none (hscu ▸ h), hscu]
  | some pc => rw [State.gateTest_of_some h, State.gateTest_of_some (hscu ▸ h), hscu, htime]

/-- Settles O29: the gate test is all an end does at the SCU. -/
theorem gateOpensForFetchInWindow : Obligations.GateOpensForFetchInWindow := by
  refine ⟨fun s d okay outcome pc before hc hg => ?_, fun s d okay outcome before hc => ?_⟩
  · rw [State.endTransaction_gate, State.gateTest_of_some hc]
    have hshut : s.scu.commit ≠ some { pc with gateOpen := true, deadline := none } := by
      rw [hc]
      intro h
      have := congrArg PendingCommit.gateOpen (Option.some.inj h)
      simp [hg] at this
    have hopens := opensGate_iff (d := d) (okay := okay) hg
    refine ⟨?_, ?_⟩
    · split
      case isTrue h => obtain ⟨h1, h2⟩ := h; have := hopens.mp h1; tauto
      case isFalse h => exact ⟨fun h' => absurd h' hshut, fun h' => absurd ⟨hopens.mpr (by tauto), by tauto⟩ h⟩
    · split
      case isTrue => exact fun h => absurd rfl h
      case isFalse => exact fun _ => rfl
  · rw [State.endTransaction_gate, State.gateTest_of_none hc]

/-! ### A report at the trace unit (R136 to R143) -/

theorem TraceConfig.inWindow_iff {c : TraceConfig} {a : HostWordAddr} :
    c.inWindow a = true ↔ ∃ first last, c.window = some (first, last) ∧ first.toNat ≤ a.toNat / 8 ∧ a.toNat / 8 ≤ last.toNat := by
  unfold TraceConfig.inWindow
  cases h : c.window with
  | none => simp
  | some w =>
    obtain ⟨first, last⟩ := w
    simp [BitVec.le_def, lineOf_toNat]

theorem TraceConfig.passes_iff {c : TraceConfig} {r : EndReport} :
    c.passes r = true ↔ r.trace = true ∧ (if r.write then c.dirWrite else c.dirRead) = true ∧
      (if r.fetch then c.kindFetch else c.kindData) = true ∧ c.outcomes.getLsbD r.outcome.code = true := by
  simp only [TraceConfig.passes, Bool.and_eq_true, and_assoc]

theorem State.traceReport_of_passes {s : State} {r : EndReport} (h : s.trace.config.passes r = true) {fires : Bool}
    (hf : (s.trace.state == .armed && s.trace.config.inWindow r.addr) = fires) :
    s.traceReport r = s.traceTake (.access r fires) fires := by
  subst hf
  exact if_pos h

/-- Settles O48: the filter, then the capture states one by one. -/
theorem endReportReachesTrace : Obligations.EndReportReachesTrace := by
  intro s r app inWindow hlen happ hwin
  have happ (f : Bool) : s.trace.append (.access r f) = app f := by
    rw [TraceUnit.append_eq _ hlen, happ f]
    rfl
  have hwin : s.trace.config.inWindow r.addr = inWindow := Bool.eq_iff_iff.mpr (TraceConfig.inWindow_iff.trans hwin.symm)
  refine ⟨fun h => if_neg fun hp => h (TraceConfig.passes_iff.mp hp), fun h => ?_, fun hp => ?_⟩
  · unfold State.traceReport
    split
    · obtain h | h := h <;> simp [State.traceTake, TraceUnit.take, h]
    · rfl
  · have hrep {fires : Bool} (hf : (s.trace.state == .armed && inWindow) = fires) :
        s.traceReport r = s.traceTake (.access r fires) fires := State.traceReport_of_passes hp (hwin ▸ hf)
    refine ⟨fun hst hroom => ?_, fun last hst hmode hfull hlast => ?_, fun hst hw => ?_, fun hst hw => ?_,
      fun hst hpost => ?_, fun hst hpost => ?_⟩
    · have hroom : ¬ (s.trace.config.mode = .stop ∧ Config.traceCapacity ≤ s.trace.records.length) := by
        rintro ⟨hm, hl⟩
        have : (512 : Nat) ≤ s.trace.records.length := hl
        obtain h | h := hroom
        · exact h hm
        · omega
      simp [hrep (fires := false) (by simp [hst]), State.traceTake, TraceUnit.take, hst, hroom, happ]
    · have hcap : s.trace.config.mode = .stop ∧ Config.traceCapacity ≤ s.trace.records.length :=
        ⟨hmode, hfull.ge⟩
      have hnew : s.trace.newest = some last.seq := by simp [TraceUnit.newest, hlast]
      rw [hrep (fires := false) (by simp [hst]), ← detailBytes_seq 1 (by decide)]
      simp [State.traceTake, TraceUnit.take, hst, hcap, hnew]
    · simp [hrep (fires := false) (by simp [hw]), State.traceTake, TraceUnit.take, hst, happ]
    · simp [hrep (fires := true) (by simp [hst, hw]), State.traceTake, TraceUnit.take, hst, happ]
    · have hmore : s.trace.postRemaining - 1 ≠ 0 := by omega
      simp [hrep (fires := false) (by simp [hst]), State.traceTake, TraceUnit.take, hst, happ, hmore]
    · rw [hrep (fires := false) (by simp [hst]), ← detailBytes_seq 2 (by decide)]
      simp [State.traceTake, TraceUnit.take, hst, happ, hpost]

end Sys2Proof.Machine
end

section
/-! PROOF. The decision record, and a transaction from its acceptance to its end or its first access (O8, O9, O10, O11,
O12). -/

namespace Sys2Proof.Machine

open Sys2Proof

set_option Elab.async false

/-! ### The decision record (R6, R7, R8, R114, R115) -/

theorem beatCount_mem (len : BitVec 2) : beatCount len ∈ [1, 2, 4, 8] := by
  revert len
  decide

/-- The first beat is that of the addressed word (R7). -/
theorem beatIdx_zero (a : Nat) (len : BitVec 2) : (beatIdx (a % 8) (beatCount len) 0).val = a % 8 :=
  (beatsInWrapOrder _ (beatCount_mem len) (a % 8) (Nat.mod_lt a (by decide)) 0 (Nat.two_pow_pos _)).1

theorem Table.slot_of_find {t : Table} {n : LineNumber} {i : Slot} (h : t.find n = some i) :
    ∃ e, t.slots[i] = some e ∧ e.line = n := by
  have := List.find?_some h
  simpa [Option.any_eq_true] using this

theorem State.decisionFor_slot (s : State) (r : HostRequest) :
    (s.decisionFor r).slot =
      if (s.regions.classify (hostByte r.addr)).kind = .patchable then (s.table .active).find (lineOf r.addr) else none :=
  rfl

theorem State.decisionFor_plan {s : State} {r : HostRequest} (h : r.write = false) :
    (s.decisionFor r).plan = planFor (s.matchedEntry (s.decisionFor r)) r.addr r.len := by
  unfold State.decisionFor
  simp only [h]
  rfl

theorem lineOf_eq_iff {n : LineNumber} {a : HostWordAddr} : n = lineOf a ↔ n.toNat = 4 * a.toNat / 32 := by
  rw [← BitVec.toNat_inj, lineOf_toNat]
  omega

theorem planFor_getElem? {e : Option Entry} {a : HostWordAddr} {len : BitVec 2} {j : Nat} (h : j < 2 ^ len.toNat) :
    (planFor e a len)[j]? = some
      (match e with
       | none => .memory
       | some e =>
         match e.body with
         | .substitute mask l =>
           if mask.getLsbD (beatIdx (a.toNat % 8) (2 ^ len.toNat) j).val then .store l else .memory
         | .redirect ce target => .target ce target
         | .watch _ _ => .memory) := by
  unfold planFor beatCount
  rw [List.getElem?_map, List.getElem?_range h]
  cases e with
  | none => rfl
  | some e => cases hb : e.body <;> simp [EntryBody.source, hb, wordIdxOf]

/-- Settles O8: by the search for the line number and the plan's beats. -/
theorem decisionRecordFormed : Obligations.DecisionRecordFormed := by
  intro s r
  refine ⟨rfl, rfl, rfl, ?_, rfl, rfl, rfl, fun h => ?_, fun i h => ?_, fun h hnone i e hi hl => ?_, fun h => ?_,
    fun h => ⟨?_, fun j hj => ?_⟩⟩
  · show (r.fetch && !r.write) = true ↔ _
    simp
  · exact (s.decisionFor_slot r).trans (if_neg h)
  · rw [State.decisionFor_slot] at h
    split at h
    · obtain ⟨e, he, hline⟩ := Table.slot_of_find h
      exact ⟨e, he, lineOf_eq_iff.mp hline⟩
    · cases h
  · rw [State.decisionFor_slot, if_pos (show (s.regions.classify (hostByte r.addr)).kind = _ from h)] at hnone
    exact Table.find_eq_none_iff.mp hnone i e hi (lineOf_eq_iff.mpr hl)
  · show (if r.write then [] else _) = _
    rw [if_pos h]
  · rw [State.decisionFor_plan h, planFor, List.length_map, List.length_range, beatCount]
  · rw [State.decisionFor_plan h]
    exact planFor_getElem? hj

/-! ### Acceptance (R114, R116) -/

/-- The transaction that an accepted request becomes. -/
def State.txnFor (s : State) (r : HostRequest) : Txn :=
  { dec := s.decisionFor r, done := 0, fellBack := false, writes := r.writes }

/-- The state in which the first beat of an accepted transaction is served. -/
def State.accepted (s : State) (us : List Upset) (x : Txn) : State :=
  { s with store := s.store.upset us, hbi := { s.hbi with strobes := [], state := .inFlight x } }

theorem exec_acceptance {s : State} {r : HostRequest} (us : List Upset) (hs : s.inReset = false)
    (hw : s.hbi.state = .waiting r) (hheld : s.hbi.held = false) (hdue : s.effectDue = false) :
    exec (.acceptance us) s = .next ((s.accepted us (s.txnFor r)).serve (s.txnFor r)) := by
  refine (congrArg Host.Outcome.next (State.whenUp_of hs _)).trans ?_
  have hacc : s.accepts = true := by rw [State.accepts, hheld, hdue]; rfl
  simp only [hw, hacc, if_true]
  rfl

theorem State.serve_of_blocked {s : State} {t : Txn} (h : t.dec.region.kind = .blocked) :
    s.serve t = s.endTransaction t.dec false .blocked [] := if_pos h

theorem State.serve_of_refused {s : State} {t : Txn} (h : t.dec.region.kind ≠ .blocked) (hw : t.dec.write = true)
    (hp : t.dec.region.policy = .refuse) : s.serve t = s.endTransaction t.dec false .refused [] := by
  rw [State.serve, if_neg h, if_pos hw, if_pos hp]

theorem State.serve_of_write {s : State} {t : Txn} (h : t.dec.region.kind ≠ .blocked) (hw : t.dec.write = true)
    (hp : t.dec.region.policy ≠ .refuse) : s.serve t = State.serveWrite (beatCount t.dec.len) t s := by
  rw [State.serve, if_neg h, if_pos hw, if_neg hp]

theorem State.serve_of_read {s : State} {t : Txn} (h : t.dec.region.kind ≠ .blocked) (hw : t.dec.write = false) :
    s.serve t = State.serveRead t.dec.plan t s := by
  rw [State.serve, if_neg h, hw]
  rfl

/-- An ERROR end at the first beat: refused, with ACCESS_REFUSED, and no block beside the lookup and the trace unit
touched (R102, R103, R117). -/
theorem State.refusedEnd (s : State) (us : List Upset) (r : HostRequest) {o : TxnOutcome} (ho : o = .blocked ∨ o = .refused) :
    ∃ t, (s.accepted us (s.txnFor r)).endTransaction (s.decisionFor r) false o [] = t ∧
      t.hbi.state = (match s.hbi.nextRequest with
        | none => .idle
        | some q => .waiting q) ∧
      t.hbi.strobes = [{ hrd := some 0, hstb := false, hend := true, herr := true }] ∧
      t.port = s.port ∧ t.store = s.store.upset us ∧ t.roles = s.roles ∧ t.scu = s.scu ∧ t.regions = s.regions ∧
      t.loader = s.loader ∧ t.svp = s.svp ∧
      t.events.sources[EventSource.accessRefused.index] =
        s.events.sources[EventSource.accessRefused.index].raised (BitVec.ofNat 32 (4 * r.addr.toNat)) ∧
      t.events.inService = s.events.inService ∧
      ((s.decisionFor r).slot = none → t.tables = s.tables ∧
        ∀ i : Fin 14, i ≠ EventSource.accessRefused.index → i ≠ EventSource.traceStopped.index →
          t.events.sources[i] = s.events.sources[i]) := by
  obtain ⟨hhbi, hroles, hstore, hport, hregions, hloader, hsvp, -, -, -, -, hin, -, hother, hdown, -, href, hmiss, -⟩ :=
    endOfTransaction (s.accepted us (s.txnFor r)) _ (s.decisionFor r) false o [] (.inl rfl) rfl
  refine ⟨_, rfl, congrArg Hbi.state hhbi, congrArg Hbi.strobes hhbi, hport, hstore, hroles,
    State.endTransaction_failed_scu _ _ _ _, hregions, hloader, hsvp, ?_, hin, fun hslot => ?_⟩
  · rw [href, if_pos ho]
    rfl
  · have hnone : (s.accepted us (s.txnFor r)).matchedEntry (s.decisionFor r) = none := by
      rw [State.matchedEntry, hslot]
    obtain ⟨htables, hfirst, hwatch, hunder⟩ := hmiss hnone
    refine ⟨htables, fun i h1 h2 => ?_⟩
    rw [State.endTransaction_source _ _ _ _ _ h2, hnone, endRaises_none, raisesOf_if, raisesOf_ne (Ne.symm h1), ite_self]
    rfl

/-- Settles O9: an end at the first beat, before any beat is served. -/
theorem blockedAndRefusedEndAtFirstBeat : Obligations.BlockedAndRefusedEndAtFirstBeat := by
  intro s r us hs hw hheld hdue hcase
  have hexec := exec_acceptance us hs hw hheld hdue
  let o : TxnOutcome := if (s.regions.classify (4 * r.addr.toNat)).kind = .blocked then .blocked else .refused
  have ho : o = .blocked ∨ o = .refused := by
    show (if _ then TxnOutcome.blocked else .refused) = _ ∨ (if _ then TxnOutcome.blocked else .refused) = _
    split
    · exact .inl rfl
    · exact .inr rfl
  have hserve : (s.accepted us (s.txnFor r)).serve (s.txnFor r) =
      (s.accepted us (s.txnFor r)).endTransaction (s.decisionFor r) false o [] := by
    by_cases hb : (s.regions.classify (4 * r.addr.toNat)).kind = .blocked
    · rw [show o = .blocked from if_pos hb]
      exact State.serve_of_blocked hb
    · obtain ⟨hwrite, hpol⟩ := hcase.resolve_left hb
      rw [show o = .refused from if_neg hb]
      exact State.serve_of_refused hb hwrite hpol
  obtain ⟨t, rfl, hstate, hstrobes, hport, hstore, hroles, hscu, hregions, hloader, hsvp, hraised, hin, hmiss⟩ :=
    s.refusedEnd us r ho
  refine ⟨_, hexec.trans (congrArg _ hserve), hstate, hstrobes, hport, hstore, hroles, hscu, hregions, hloader, hsvp, rfl,
    hraised, fun hb => ?_⟩
  have hslot : (s.decisionFor r).slot = none := by
    have hk : (s.regions.classify (hostByte r.addr)).kind = .blocked := hb
    rw [State.decisionFor_slot, hk]
    rfl
  obtain ⟨htables, hsources⟩ := hmiss hslot
  exact ⟨htables, hin, hsources⟩

/-! ### A read at its first beat (R9 to R12) -/

/-- The first beat is at the addressed word: its index and its mapped address (R7, R100). -/
theorem State.txnFor_first (s : State) (r : HostRequest) :
    ((s.decisionFor r).idxAt 0).val = r.addr.toNat % 8 ∧
    (s.decisionFor r).addrAt 0 = BitVec.ofNat 26 ((s.regions.classify (4 * r.addr.toNat)).mapped (4 * r.addr.toNat)) := by
  have hidx : ((s.decisionFor r).idxAt 0).val = r.addr.toNat % 8 := beatIdx_zero _ _
  refine ⟨hidx, ?_⟩
  have hat : 32 * (r.addr.toNat / 8) + 4 * ((s.decisionFor r).idxAt 0).val = 4 * r.addr.toNat := by omega
  show BitVec.ofNat 26 ((s.regions.classify (4 * r.addr.toNat)).mapped
    (32 * (r.addr.toNat / 8) + 4 * ((s.decisionFor r).idxAt 0).val)) = _
  rw [hat]

/-- A read goes on from its acceptance beat by beat. -/
theorem exec_acceptance_read {s : State} {r : HostRequest} (us : List Upset) (hs : s.inReset = false)
    (hw : s.hbi.state = .waiting r) (hheld : s.hbi.held = false) (hdue : s.effectDue = false)
    (hk : (s.regions.classify (4 * r.addr.toNat)).kind ≠ .blocked) (hread : r.write = false) :
    ∃ t, exec (.acceptance us) s = .next t ∧
      (s.accepted us (s.txnFor r)).readGoesOn (s.txnFor r) (s.decisionFor r).plan t :=
  ⟨_, (exec_acceptance us hs hw hheld hdue).trans (congrArg _ (State.serve_of_read hk hread)), State.serveRead_spec _ _ _⟩

/-- What a walk over beats says when no beat has been served yet. -/
theorem State.readGoesOn.first {s : State} {t : Txn} {bs : List BeatSource} {u : State} (h : s.readGoesOn t bs u) :
    match bs with
    | [] => True
    | .memory :: _ => u = s.waitsFor t (readRequest t.dec.region.ce (t.dec.addrAt t.done) t.dec.region.wait)
    | .target ce target :: _ =>
      u = s.waitsFor t (readRequest ce (BitVec.ofNat 26 (32 * target.toNat + 4 * (t.dec.idxAt t.done).val)) t.dec.region.wait)
    | .store l :: _ =>
      (s.store.lines[l].bad = true →
        u = s.waitsFor { t with fellBack := true }
          (readRequest t.dec.region.ce (t.dec.addrAt t.done) t.dec.region.wait)) ∧
      (s.store.lines[l].bad = false → s.store.lines[l].words[t.dec.idxAt t.done].agrees = false →
        u = (State.raise { s with store := s.store.setLine l { s.store.lines[l] with bad := true } } .lineFault
            (BitVec.ofNat 32 l.val)).waitsFor { t with fellBack := true }
          (readRequest t.dec.region.ce (t.dec.addrAt t.done) t.dec.region.wait)) := by
  have := h [] bs s t rfl (fun j l hl => nomatch hl) rfl (by simp)
  match bs, this with
  | [], _ => trivial
  | .memory :: _, this => exact this
  | .target ce target :: _, this => exact this
  | .store l :: _, this => exact this

/-- Settles O10: the first access of a read starts at once at a FREE port. -/
theorem readAsksForItsFirstWord : Obligations.ReadAsksForItsFirstWord := by
  intro s r us b bs q hs hw hheld hdue hk hread hplan hport hq
  obtain ⟨t, ht, hgo⟩ := exec_acceptance_read us hs hw hheld hdue hk hread
  obtain ⟨hidx, haddr⟩ := s.txnFor_first r
  rw [ht]
  rw [hplan] at hgo
  have hfirst := hgo.first
  have hstart : s.port.request s.timeBase .host q = s.port.start s.timeBase .host q := (s.port.request_spec _ _ _).1 hport
  have hwait (q' : PortRequest) (heq : q' = q) : (s.accepted us (s.txnFor r)).waitsFor (s.txnFor r) q' =
      { s with
        store := s.store.upset us
        hbi := { s.hbi with
          strobes := []
          state := .inFlight { dec := s.decisionFor r, done := 0, fellBack := false, writes := r.writes } }
        port := { s.port with
          access := some { who := .host, givenUp := false, req := q, timeout := s.port.timeoutOf q.ce,
                           start := s.timeBase, steps := 0 } } } := by
    subst heq
    show State.mk .. = State.mk ..
    congr 1
  cases b with
  | memory =>
    refine congrArg _ (hfirst.trans (hwait _ ?_))
    rw [hq]
    exact congrArg (fun a => readRequest _ a _) haddr
  | target ce target =>
    refine congrArg _ (hfirst.trans (hwait _ ?_))
    rw [hq]
    exact congrArg (fun n => readRequest _ (BitVec.ofNat 26 (32 * target.toNat + 4 * n)) _) hidx
  | store l => exact hq.elim


theorem State.endTransaction_keeps (s : State) (d : Decision) (okay : Bool) (outcome : TxnOutcome)
    (before : List (EventSource × Word)) :
    (s.endTransaction d okay outcome before).roles = s.roles ∧ (s.endTransaction d okay outcome before).loader = s.loader ∧
    (s.endTransaction d okay outcome before).scu.state = s.scu.state ∧
    (s.endTransaction d okay outcome before).store = s.store ∧ (s.endTransaction d okay outcome before).port = s.port := by
  obtain ⟨-, hroles, hstore, hport, -, hloader, -, -, -, -, hscu, -⟩ := s.endRecorded_keeps d okay outcome before
  rw [State.endTransaction_eq]
  refine ⟨by simpa using hroles, by simpa using hloader, ?_, by simpa using hstore, by simpa using hport⟩
  rw [State.leaveFlight_scu, State.gateTest_scu, hscu]

/-- The serving of read beats keeps the roles, the loader and the staged-set state. -/
theorem State.serveRead_keeps (bs : List BeatSource) (t : Txn) (s : State) :
    (State.serveRead bs t s).roles = s.roles ∧ (State.serveRead bs t s).loader = s.loader ∧
    (State.serveRead bs t s).scu.state = s.scu.state := by
  induction bs generalizing t s with
  | nil =>
    obtain ⟨hroles, hloader, hstate, -⟩ := s.endTransaction_keeps t.dec true (readOutcome (s.matchedEntry t.dec) t) []
    exact ⟨hroles, hloader, hstate⟩
  | cons b rest ih =>
    cases b with
    | memory => exact ⟨rfl, rfl, rfl⟩
    | target ce target => exact ⟨rfl, rfl, rfl⟩
    | store l =>
      rw [State.serveRead]
      split
      · exact ⟨rfl, rfl, rfl⟩
      · split
        · exact ih _ _
        · simp [State.awaitBeat]

/-- A beat planned STORE comes of a SUBSTITUTE entry. -/
theorem planFor_store_mem {e : Option Entry} {a : HostWordAddr} {len : BitVec 2} {l : LineIdx}
    (h : BeatSource.store l ∈ planFor e a len) : ∃ f mask, e = some f ∧ f.body = .substitute mask l := by
  unfold planFor at h
  obtain ⟨j, -, hj⟩ := List.mem_map.mp h
  cases e with
  | none => cases hj
  | some f =>
    refine ⟨f, ?_⟩
    cases hb : f.body with
    | substitute mask k =>
      simp only [hb, EntryBody.source] at hj
      split at hj
      · cases hj; exact ⟨mask, rfl, rfl⟩
      · cases hj
    | redirect ce target => simp [hb, EntryBody.source] at hj
    | watch th dir => simp [hb, EntryBody.source] at hj

/-- A read of one beat served from the store ends SUBSTITUTED (R12). -/
theorem State.serveRead_oneStoreBeat {s : State} {r : HostRequest} {us : List Upset} {l : LineIdx} {line : StoreLine}
    {w : StoreWord} (hread : r.write = false) (hplan : (s.decisionFor r).plan = [.store l])
    (hline : (s.store.upset us).lines[l] = line) (hw : line.words[(s.decisionFor r).idxAt 0] = w)
    (hbad : line.bad = false) (hgood : w.agrees = true) :
    State.serveRead (s.decisionFor r).plan (s.txnFor r) (s.accepted us (s.txnFor r)) =
      State.endTransaction
        { s with
          store := s.store.upset us
          hbi := { s.hbi with
            strobes := [{ hrd := some w.data, hstb := true, hend := true, herr := false }]
            state := .inFlight { dec := s.decisionFor r, done := 0, fellBack := false, writes := r.writes } } }
        (s.decisionFor r) true .substituted [] := by
  obtain ⟨e, mask, he, hbody⟩ := planFor_store_mem (l := l) (by
    rw [← State.decisionFor_plan hread, hplan]
    exact List.mem_singleton_self _)
  subst hline hw
  have := (State.serveRead_spec (s.decisionFor r).plan (s.txnFor r) (s.accepted us (s.txnFor r))) [l] [] _ _ hplan
    (fun j k hk => by
      obtain ⟨rfl, rfl⟩ : j = 0 ∧ l = k := by
        cases j with
        | zero => exact ⟨rfl, Option.some.inj hk⟩
        | succ j => cases hk
      exact ⟨hbad, hgood⟩) rfl rfl
  have houtcome : ∀ x : State, x.tables = s.tables → x.matchedEntry (s.decisionFor r) = some e := fun x hx => by
    rw [← he]
    unfold State.matchedEntry
    rw [hx]
  refine this.trans ?_
  dsimp only
  rw [show (s.accepted us (s.txnFor r)).matchedEntry (s.txnFor r).dec = some e from houtcome _ rfl]
  simp only [hbody]
  rw [show (s.txnFor r).dec.plan = [.store l] from hplan]
  rfl

theorem State.inFlight_endTransaction (s : State) (d : Decision) (okay : Bool) (outcome : TxnOutcome)
    (before : List (EventSource × Word)) : (s.endTransaction d okay outcome before).inFlight = false := by
  rw [State.inFlight, State.endTransaction_hbi]
  cases s.hbi.nextRequest <;> rfl

/-- Settles O11: the first beat by the line and its word, the rest beat by beat. -/
theorem storeBeatServedOrFallsBack : Obligations.StoreBeatServedOrFallsBack := by
  refine ⟨fun s r us l bs line w hs hw hheld hdue hk hread hplan hline hword => ?_,
    fun s r us x hs hw hheld hdue hk hread hx => ?_⟩
  · have hexec := (exec_acceptance us hs hw hheld hdue).trans
      (congrArg Host.Outcome.next (State.serve_of_read (s := s.accepted us (s.txnFor r)) (t := s.txnFor r) hk hread))
    have hsteady := State.serveRead_steady (s.decisionFor r).plan (s.txnFor r) (s.accepted us (s.txnFor r))
    obtain ⟨hroles, hloader, hstate⟩ :=
      State.serveRead_keeps (s.decisionFor r).plan (s.txnFor r) (s.accepted us (s.txnFor r))
    obtain ⟨hidx, haddr⟩ := s.txnFor_first r
    have hidx : (s.decisionFor r).idxAt 0 = (⟨r.addr.toNat % 8, by omega⟩ : WordIdx) := Fin.ext hidx
    subst hline
    have hword : (s.store.upset us).lines[l].words[(s.decisionFor r).idxAt 0] = w := by
      have hat : ∀ i : WordIdx, i = ⟨r.addr.toNat % 8, by omega⟩ → (s.store.upset us).lines[l].words[i] = w := by
        rintro _ rfl
        exact hword
      exact hat _ hidx
    have hgo := State.serveRead_spec (s.decisionFor r).plan (s.txnFor r) (s.accepted us (s.txnFor r))
    generalize hu : State.serveRead (s.decisionFor r).plan (s.txnFor r) (s.accepted us (s.txnFor r)) = u at *
    rw [hplan] at hgo
    obtain ⟨hmarked, hfails⟩ := hgo.first
    have hquery : readRequest (s.txnFor r).dec.region.ce ((s.txnFor r).dec.addrAt (s.txnFor r).done)
          (s.txnFor r).dec.region.wait = readRequest (s.regions.classify (4 * r.addr.toNat)).ce
            (BitVec.ofNat 26 ((s.regions.classify (4 * r.addr.toNat)).mapped (4 * r.addr.toNat)))
            (s.regions.classify (4 * r.addr.toNat)).wait := congrArg (fun a => readRequest _ a _) haddr
    rw [hquery] at hmarked hfails
    refine ⟨u, hexec.trans (congrArg _ hu), hroles, hsteady.regions, hsteady.svp, hstate, hloader,
      fun hbad hgood hbs => ?_, fun hcase => ?_, fun hbad => ?_, fun hbad hfail => ?_⟩
    · subst hbs
      have hend := State.serveRead_oneStoreBeat hread hplan rfl hword hbad hgood
      rw [hu] at hend
      subst hend
      obtain ⟨-, -, -, hstore, hport⟩ := State.endTransaction_keeps _ (s.decisionFor r) true .substituted []
      exact ⟨hport, hstore, State.inFlight_endTransaction _ _ _ _ _,
        congrArg Hbi.strobes (State.endTransaction_hbi _ _ _ _ _), rfl⟩
    · cases hbad : (s.store.upset us).lines[l].bad
      case true => rw [hmarked hbad]; exact ⟨rfl, rfl, rfl, rfl⟩
      case false =>
        have hfail : w.agrees = false := hcase.resolve_left (by rw [hbad]; decide)
        rw [hfails hbad ((congrArg StoreWord.agrees hword).trans hfail)]
        exact ⟨rfl, rfl, rfl, rfl⟩
    · rw [hmarked hbad]; exact ⟨rfl, rfl⟩
    · rw [hfails hbad ((congrArg StoreWord.agrees hword).trans hfail)]; exact ⟨rfl, rfl⟩
  · subst hx
    exact exec_acceptance_read us hs hw hheld hdue hk hread


/-! ### A write (R14, R103, R116, R129) -/

/-- The strobes of `n` write beats with HEND at the last. -/
def writeStrobes (n : Nat) : List HostStrobe :=
  (List.range n).map fun j => { hrd := none, hstb := true, hend := j + 1 == n, herr := false }

theorem writeStrobes_succ (n : Nat) : writeStrobes (n + 1) = writeStrobe (n == 0) :: writeStrobes n := by
  rw [writeStrobes, List.range_succ_eq_map, List.map_cons, List.map_map]
  refine congrArg₂ List.cons ?_ (List.map_congr_left fun j _ => ?_)
  · simp [writeStrobe]
  · simp

/-- Under DISCARD every beat is taken, and the transaction ends DISCARDED (R103). -/
theorem State.serveWrite_discard (n : Nat) (t : Txn) (s : State) (h : t.dec.region.policy = .discard) :
    State.serveWrite n t s =
      State.endTransaction { s with hbi := { s.hbi with strobes := s.hbi.strobes ++ writeStrobes n } } t.dec true .discarded
        [] := by
  induction n generalizing t s with
  | zero =>
    have hout : writeOutcome (s.matchedEntry t.dec) t = .discarded := if_pos h
    rw [State.serveWrite, hout, writeStrobes, List.range_zero, List.map_nil, List.append_nil]
  | succ n ih =>
    have hdec : t.next.dec.region.policy = .discard := h
    rw [State.serveWrite, if_pos (.inl h), ih t.next _ hdec, writeStrobes_succ]
    simp only [State.strobe, List.append_assoc, List.cons_append, List.nil_append]
    rfl

/-- What a walk over write beats says when the first beat has a byte enable. -/
theorem State.writeGoesOn.first {s : State} {t : Txn} {u : State} (h : s.writeGoesOn t u) {b : WriteBeat}
    {bs : List WriteBeat} (hb : t.writes = b :: bs) (hen : b.enables ≠ 0) :
    u = s.waitsFor t
      { ce := t.dec.region.ce, addr := t.dec.addrAt t.done, write := true, data := b.data, enables := b.enables,
        wait := t.dec.region.wait } := by
  obtain ⟨dec, done, fellBack, writes⟩ := t
  subst hb
  exact h [] (b :: bs) s ⟨dec, done, fellBack, b :: bs⟩ rfl (fun c hc => nomatch hc) rfl (by simp) hen

/-- Settles O12: by the policy of the region. -/
theorem writesByPolicy : Obligations.WritesByPolicy := by
  intro s r us hs hw hheld hdue hk hwrite hwf
  have hlen : r.writes.length = beatCount r.len := by
    unfold HostRequest.wellFormed at hwf
    rw [hwrite, if_pos rfl] at hwf
    exact beq_iff_eq.mp hwf
  have hexec := exec_acceptance us hs hw hheld hdue
  have hserve (hp : (s.regions.classify (4 * r.addr.toNat)).policy ≠ .refuse) :
      (s.accepted us (s.txnFor r)).serve (s.txnFor r) =
        State.serveWrite (beatCount r.len) (s.txnFor r) (s.accepted us (s.txnFor r)) :=
    State.serve_of_write hk hwrite hp
  have hgo (hp : (s.regions.classify (4 * r.addr.toNat)).policy = .forward) :
      (s.accepted us (s.txnFor r)).writeGoesOn (s.txnFor r)
        (State.serveWrite (beatCount r.len) (s.txnFor r) (s.accepted us (s.txnFor r))) :=
    State.serveWrite_spec _ _ _ hlen hp
  refine ⟨fun hp => ?_, fun w ws hp hws hen => ?_, fun hp x hx => ?_⟩
  · rw [hexec, hserve (by rw [hp]; decide), State.serveWrite_discard _ _ _ hp]
    generalize hu : State.endTransaction _ (s.txnFor r).dec true .discarded [] = u
    obtain ⟨hhbi, hroles, hstore, hport, hregions, -, hsvp, -⟩ :=
      endOfTransaction _ u (s.txnFor r).dec true .discarded [] (.inl rfl) hu.symm
    have hstrobes : u.hbi.strobes = writeStrobes (beatCount r.len) := congrArg Hbi.strobes hhbi
    have hidle : u.inFlight = false := by rw [← hu]; exact State.inFlight_endTransaction _ _ _ _ _
    refine ⟨u, rfl, hport, hidle, hstore, hroles, hregions, hsvp, ?_, fun j hj => ?_, ?_⟩
    · rw [hstrobes, writeStrobes, List.length_map, List.length_range, beatCount]
    · rw [hstrobes, writeStrobes, List.getElem?_map, List.getElem?_range (show j < beatCount r.len from hj)]
      rfl
    · rw [hstrobes, ← hu]
      rfl
  · have hpol : (s.regions.classify (4 * r.addr.toNat)).policy ≠ .refuse := by rw [hp]; decide
    rw [hexec, hserve hpol, (hgo hp).first (t := s.txnFor r) hws hen]
    have haddr : (s.txnFor r).dec.addrAt (s.txnFor r).done = _ := (s.txnFor_first r).2
    rw [haddr]
    rfl
  · subst hx
    exact ⟨_, hexec.trans (congrArg _ (hserve (by rw [hp]; decide))), hgo hp⟩

end Sys2Proof.Machine
end

section
/-! PROOF. The release of a whole table, the reports of a load, and the ends of a memory-side access (O36, O37, O38). -/

namespace Sys2Proof.Machine

open Sys2Proof

set_option Elab.async false

/-! ### The release of several entries in order (R29, R30) -/

/-- The lines that a list of entries names, in its order. -/
def linesOf (es : List (Slot × Entry)) : List LineIdx := es.filterMap fun x => x.2.storeLine

/-- The line store after the release of several entries in order. -/
def LineStore.releaseList (st : LineStore) (es : List (Slot × Entry)) : LineStore :=
  es.foldl (fun st x => st.releaseEntry x.2) st

theorem countP_storeLine (es : List (Slot × Entry)) (l : LineIdx) :
    (es.countP fun x => x.2.storeLine == some l) = (linesOf es).count l := by
  induction es with
  | nil => rfl
  | cons x es ih =>
    rw [List.countP_cons, linesOf, List.filterMap_cons, ih]
    cases h : x.2.storeLine with
    | none => rfl
    | some m =>
      rw [List.count_cons]
      rfl

theorem Table.refs_eq_count (t : Table) (l : LineIdx) : t.refs l = t.lines.count l := countP_storeLine t.entries l

theorem Table.lines_nodup {t : Table} (h : ∀ l, t.refs l ≤ 1) : t.lines.Nodup :=
  List.nodup_iff_count_le_one.mpr fun l => t.refs_eq_count l ▸ h l

/-- A line that reaches no count in a release keeps its place among the lists. -/
theorem LineStore.release_eq_of_ne (st : LineStore) {l m : LineIdx} (h : m ≠ l) :
    (st.release l).lines[m] = st.lines[m] := (st.release_spec l).2.1 m h

/-- The release of distinct referenced lines: each loses a reference, and those that reach count 0 join their list in
order. -/
theorem LineStore.releaseList_spec (es : List (Slot × Entry)) (st : LineStore) (hnodup : (linesOf es).Nodup)
    (hpos : ∀ l ∈ linesOf es, 0 < st.lines[l].refCount) :
    (∀ l : LineIdx, (st.releaseList es).lines[l] =
      { st.lines[l] with refCount := st.lines[l].refCount - (linesOf es).count l }) ∧
    (st.releaseList es).threshold = st.threshold ∧
    (st.releaseList es).freeList =
      st.freeList ++ (linesOf es).filter (fun l => st.lines[l].refCount == 1 && !st.lines[l].bad) ∧
    (st.releaseList es).badList =
      st.badList ++ (linesOf es).filter (fun l => st.lines[l].refCount == 1 && st.lines[l].bad) := by
  induction es generalizing st with
  | nil => exact ⟨fun l => rfl, rfl, (List.append_nil _).symm, (List.append_nil _).symm⟩
  | cons x es ih =>
    cases hx : x.2.storeLine with
    | none =>
      have hlines : linesOf (x :: es) = linesOf es := List.filterMap_cons_none hx
      have hrel : st.releaseList (x :: es) = st.releaseList es := by
        rw [LineStore.releaseList, List.foldl_cons, LineStore.releaseEntry_of_none hx]
        rfl
      rw [hlines] at hnodup hpos ⊢
      rw [hrel]
      exact ih st hnodup hpos
    | some l =>
      have hlines : linesOf (x :: es) = l :: linesOf es := List.filterMap_cons_some hx
      have hrel : st.releaseList (x :: es) = (st.release l).releaseList es := by
        rw [LineStore.releaseList, List.foldl_cons, LineStore.releaseEntry_of_some hx]
        rfl
      rw [hlines] at hnodup hpos ⊢
      rw [hrel]
      obtain ⟨hnot, hnodup⟩ := List.nodup_cons.mp hnodup
      have hne {m : LineIdx} (hm : m ∈ linesOf es) : m ≠ l := fun h => hnot (h ▸ hm)
      obtain ⟨hthr, hself, -, hfree, hbad⟩ := LineStore.released_release (hpos l (List.mem_cons_self ..))
      obtain ⟨ih1, ih2, ih3, ih4⟩ := ih (st.release l) hnodup fun m hm => by
        rw [st.release_eq_of_ne (hne hm)]
        exact hpos m (List.mem_cons_of_mem l hm)
      have hkeep (f : StoreLine → Bool) : (linesOf es).filter (fun m => f (st.release l).lines[m]) =
          (linesOf es).filter fun m => f st.lines[m] :=
        List.filter_congr fun m hm => by rw [st.release_eq_of_ne (hne hm)]
      refine ⟨fun m => ?_, ih2.trans hthr, ?_, ?_⟩
      · rw [ih1 m]
        by_cases h : m = l
        · subst h
          rw [hself, List.count_cons_self, List.count_eq_zero_of_not_mem hnot]
          rfl
        · rw [st.release_eq_of_ne h, List.count_cons_of_ne (Ne.symm h)]
      · rw [ih3, hfree, hkeep fun y => y.refCount == 1 && !y.bad, List.append_assoc, List.filter_cons]
        generalize st.lines[l].refCount = n, st.lines[l].bad = b
        cases b <;> by_cases h : n = 1 <;> simp [h]
      · rw [ih4, hbad, hkeep fun y => y.refCount == 1 && y.bad, List.append_assoc, List.filter_cons]
        generalize st.lines[l].refCount = n, st.lines[l].bad = b
        cases b <;> by_cases h : n = 1 <;> simp [h]

/-- The release of a table that names no line twice, and none whose count it would take below 0. -/
theorem LineStore.tableReleased_releaseTable {st : LineStore} {t : Table} (h1 : ∀ l, t.refs l ≤ 1)
    (h2 : ∀ l : LineIdx, t.refs l ≤ st.lines[l].refCount) : st.tableReleased (st.releaseTable t) t := by
  have hpos : ∀ l ∈ linesOf t.entries, 0 < st.lines[l].refCount := fun l hl =>
    (List.count_pos_iff.mpr hl).trans_le (t.refs_eq_count l ▸ h2 l)
  obtain ⟨hlines, hthr, hfree, hbad⟩ := st.releaseList_spec t.entries (Table.lines_nodup h1) hpos
  exact ⟨fun l => t.refs_eq_count l ▸ hlines l, hthr, hfree, hbad⟩

theorem Tables.exclusive.get {t : Tables} {l : LineIdx} (h : t.exclusive l) (x : Letter) : (t.get x).refs l ≤ 1 := by
  obtain ⟨ha, hb, hc⟩ := h
  cases x
  · exact ha
  · exact hb
  · exact hc

theorem State.accounted.refs_le {s : State} (h : s.accounted) (r : Role) (l : LineIdx) :
    (s.table r).refs l ≤ 1 ∧ (s.table r).refs l ≤ s.store.lines[l].refCount := by
  obtain ⟨hcount, hexcl, -⟩ := h
  exact ⟨(hexcl l).get _, hcount l ▸ s.tables.refs_get_le _ l⟩

/-- The release of a role's table, in a line store whose counts are those that are accounted for. -/
theorem State.accounted.tableReleased {s : State} (h : s.accounted) (r : Role) {st : LineStore}
    (hst : ∀ l : LineIdx, st.lines[l].refCount = s.store.lines[l].refCount) :
    st.tableReleased (st.releaseTable (s.table r)) (s.table r) :=
  LineStore.tableReleased_releaseTable (fun l => (h.refs_le r l).1) fun l => hst l ▸ (h.refs_le r l).2

/-! ### Details and the reports of a load (R87, R180) -/

theorem detailBytes_eq (b0 b1 : Byte) (x : BitVec 16) :
    detailBytes b0 b1 x = BitVec.ofNat 32 (b0.toNat + 256 * b1.toNat + 65536 * x.toNat) := by
  apply BitVec.eq_of_toNat_eq
  have h0 := b0.isLt
  have h1 := b1.isLt
  have hx := x.isLt
  have hlow : b1.toNat <<< 8 ||| b0.toNat = b1.toNat * 256 + b0.toNat := by
    rw [← Nat.shiftLeft_add_eq_or_of_lt h0, Nat.shiftLeft_eq]
  rw [detailBytes, BitVec.toNat_append, BitVec.toNat_append, BitVec.toNat_ofNat, hlow,
    ← Nat.shiftLeft_add_eq_or_of_lt (by omega), Nat.shiftLeft_eq]
  omega

theorem loadReport_eq (stage reason : Byte) (gen : Generation) :
    loadReport stage reason gen = loadDetail stage.toNat reason.toNat gen := detailBytes_eq stage reason gen

theorem detailBytes_code (b : Byte) (x : BitVec 16) :
    detailBytes b 0 x = BitVec.ofNat 32 (b.toNat + 65536 * x.toNat) := by
  rw [detailBytes_eq]
  rfl

theorem timeoutDetail_eq (ce : ChipEnable) (addr : DownAddr) :
    timeoutDetail ce addr = BitVec.ofNat 32 (addr.toNat + (match ce with | .ce0 => 0 | .ce1 => 0x80000000)) := by
  apply BitVec.eq_of_toNat_eq
  have := addr.isLt
  cases ce <;> simp [timeoutDetail, ChipEnable.code]
  omega

theorem State.endStartUpLoad_eq (s : State) : s.endStartUpLoad = s.startUpOver := by
  unfold State.endStartUpLoad State.startUpOver
  by_cases h : s.straps.mode = .loadHold
  · rw [if_pos h, h]
    simp
  · have : (s.straps.mode != .loadHold) = true := by simpa using h
    rw [if_neg h, this, Bool.and_true]

theorem State.startUpCommitFailed_eq (s : State) (b : Byte) : s.startUpCommitFailed b = s.startUpFailed b.toNat := by
  rw [State.startUpCommitFailed, State.endStartUpLoad_eq, loadReport_eq]
  rfl

/-- A load that fails in stage PARSE discards the staged set and reports (R86, R87). -/
theorem State.loadFailed_eq (s : State) (reason : ParseReason) :
    s.loadFailed reason =
      s.parseFailed (s.store.releaseTable (s.table .staged)) reason
        (if s.loader.state = .body then headerGeneration s.loader.header else 0) := by
  have h1 : loadReport 1 reason.code (if s.loader.state = .body then s.loadGeneration else 0) =
      loadDetail 1 reason.code.toNat (if s.loader.state = .body then headerGeneration s.loader.header else 0) :=
    loadReport_eq _ _ _
  unfold State.loadFailed State.parseFailed
  dsimp only [State.raise_loader, State.releaseRole_loader]
  rw [h1]
  cases s.loader.kind
  · rfl
  · exact State.endStartUpLoad_eq _

/-- The end of a verification that VERIFY_SET started (R53). -/
theorem State.endVerification_verifySet {s : State} {v : VerifyRun} (hv : s.scu.verifier = some v)
    (hstarter : v.starter = .verifySet) (r : VerifyResult) : s.endVerification r = s.verifyDone r s.scu.computedCrc := by
  unfold State.endVerification State.verifyDone
  rw [hv]
  simp only [hstarter, detailBytes_code]
  rfl

/-! ### The memory port and its pins (R123 to R130) -/

theorem exec_accessComplete {s : State} {a : Access} (md : Word) (us : List Upset) (hs : s.inReset = false)
    (ha : s.port.access = some a) :
    exec (.accessComplete md us) s = .next
      (if a.givenUp then s.freePort
      else
        match a.who with
        | .host => (s.freePort.upset us).hostWord md
        | .loader => (s.freePort.upset us).loaderWord md
        | .verifier => (s.freePort.upset us).verifierWord md) := by
  refine (congrArg Host.Outcome.next (State.whenUp_of hs _)).trans ?_
  simp only [ha] <;> rfl

theorem exec_accessComplete_givenUp {s : State} {a : Access} (md : Word) (us : List Upset) (hs : s.inReset = false)
    (ha : s.port.access = some a) (hg : a.givenUp = true) : exec (.accessComplete md us) s = .next s.freePort := by
  rw [exec_accessComplete md us hs ha, if_pos hg]

/-- Settles O36: the pins by the access in progress, the grants by precedence. -/
theorem portGrantsByPrecedence : Obligations.PortGrantsByPrecedence := by
  refine ⟨fun p phase => ⟨fun h => ?_, fun a ha => ?_⟩, fun s a md us hs ha hg => ?_⟩
  · simp [MemPort.pins, h]
  · have hma : a.req.addr.extractLsb' 2 24 = BitVec.ofNat 24 (a.req.addr.toNat / 4) := by
      apply BitVec.eq_of_toNat_eq
      simp [BitVec.extractLsb', Nat.shiftRight_eq_div_pow]
    simp only [MemPort.pins, ha, hma]
    refine ⟨?_, ?_, trivial, fun k hk => ?_, ?_, ?_, trivial⟩
    · simp
    · simp
    · simp [hk]
    · simp
    · simp
  · have hexec := exec_accessComplete_givenUp md us hs ha hg
    obtain ⟨hhost, hloader, hverifier, hnone⟩ := s.port.free_spec s.timeBase
    refine ⟨fun r h => ?_, fun r h1 h2 => ?_, fun r h1 h2 h3 => ?_, fun h1 h2 h3 => ?_⟩
    · rw [hexec, State.freePort, hhost r h]
      rfl
    · rw [hexec, State.freePort, hloader r h1 h2]
      rfl
    · rw [hexec, State.freePort, hverifier r h1 h2 h3]
      rfl
    · rw [hexec, State.freePort, hnone h1 h2 h3]

/-! ### The end of a host access (R116, R126) -/

/-- The state in which the host side takes its word: the port freed, the store as its disturbances leave it. -/
theorem exec_accessComplete_host {s : State} {a : Access} {t : Txn} (md : Word) (us : List Upset) (hs : s.inReset = false)
    (ha : s.port.access = some a) (hwho : a.who = .host) (hg : a.givenUp = false) (ht : s.hbi.state = .inFlight t) :
    exec (.accessComplete md us) s = .next
      (if t.dec.write then
        State.serveWrite (beatCount t.dec.len - (t.done + 1)) t.next
          ((s.freePort.upset us).strobe (writeStrobe (t.done + 1 == beatCount t.dec.len)))
      else
        State.serveRead (t.dec.plan.drop (t.done + 1)) { t with done := t.done + 1 }
          ((s.freePort.upset us).strobe
            { hrd := some md, hstb := true, hend := t.done + 1 == beatCount t.dec.len, herr := false })) := by
  rw [exec_accessComplete md us hs ha, hg, if_neg (by decide), hwho]
  have hstate : (s.freePort.upset us).hbi.state = .inFlight t := ht
  simp only [State.hostWord, hstate]

/-- Settles O37: the beat is strobed, and the transaction goes on as the walks over beats do. -/
theorem hostAccessTransfersItsBeat : Obligations.HostAccessTransfersItsBeat := by
  intro s a md us t hs ha hwho hg ht hdone
  have hexec := exec_accessComplete_host md us hs ha hwho hg ht
  have hread (hw : t.dec.write = false) : exec (.accessComplete md us) s = .next
      (State.serveRead (t.dec.plan.drop (t.done + 1)) { t with done := t.done + 1 }
        ((s.freePort.upset us).strobe
          { hrd := some md, hstb := true, hend := t.done + 1 == beatCount t.dec.len, herr := false })) := by
    rw [hexec, hw]
    rfl
  have hwrite (hw : t.dec.write = true) : exec (.accessComplete md us) s = .next
      (State.serveWrite (beatCount t.dec.len - (t.done + 1)) t.next
        ((s.freePort.upset us).strobe (writeStrobe (t.done + 1 == beatCount t.dec.len)))) := by
    rw [hexec, hw]
    rfl
  refine ⟨fun hw hlast hlen => ?_, fun hw hmore hplan => ?_, fun hw hmore hpol w0 w ws hws hen => ?_, fun hw => ?_,
    fun hw hpol hlen => ?_⟩
  · rw [hread hw, List.drop_eq_nil_of_le (by omega)]
    have hlast : (t.done + 1 == beatCount t.dec.len) = true := beq_iff_eq.mpr hlast
    rw [State.serveRead, hlast]
    generalize hu : State.endTransaction _ _ true _ [] = u
    obtain ⟨hhbi, hroles, hstore, hport, hregions, hloader, hsvp, -⟩ := endOfTransaction _ u _ true _ [] (.inl rfl) hu.symm
    exact ⟨u, rfl, by rw [← hu]; exact State.inFlight_endTransaction _ _ _ _ _, congrArg Hbi.strobes hhbi,
      congrArg Hbi.state hhbi, hport, hstore, hroles, hregions, hloader, hsvp, hu.symm⟩
  · have hmore' : (t.done + 1 == beatCount t.dec.len) = false := beq_eq_false_iff_ne.mpr (by omega)
    obtain ⟨hlt, hb⟩ := List.getElem?_eq_some_iff.mp hplan
    have hgo := State.serveRead_spec (t.dec.plan.drop (t.done + 1)) { t with done := t.done + 1 }
      ((s.freePort.upset us).strobe { hrd := some md, hstb := true, hend := false, herr := false })
    rw [List.drop_eq_getElem_cons hlt, hb] at hgo
    rw [hread hw, hmore', List.drop_eq_getElem_cons hlt, hb]
    exact congrArg Host.Outcome.next hgo.first
  · have hmore' : (t.done + 1 == beatCount t.dec.len) = false := beq_eq_false_iff_ne.mpr (by omega)
    obtain ⟨n, hn⟩ : ∃ n, beatCount t.dec.len - (t.done + 1) = n + 1 := ⟨beatCount t.dec.len - (t.done + 2), by omega⟩
    have hbeat : t.next.writeBeat = w := by simp [Txn.writeBeat, Txn.next, hws]
    have hnot : ¬ (t.next.dec.region.policy = .discard ∨ t.next.writeBeat.enables = 0) := by
      rw [hbeat]
      show ¬ (t.dec.region.policy = .discard ∨ w.enables = 0)
      rw [hpol]
      exact fun h => h.elim (by decide) hen
    rw [hwrite hw, hmore', hn, State.serveWrite, if_neg hnot, hbeat, Txn.beatAddr_eq]
    simp only [Txn.next, hws, List.tail_cons]
    rfl
  · exact ⟨_, hread hw, State.serveRead_spec _ _ _⟩
  · refine ⟨_, hwrite hw, State.serveWrite_spec _ _ _ ?_ hpol⟩
    show t.writes.tail.length = _
    rw [List.length_tail]
    omega


/-! ### The ready timeout (R127, R128, R132) -/

theorem exec_accessExpiry {s : State} (hs : s.inReset = false) : exec .accessExpiry s = .next s.expireAccess :=
  congrArg Host.Outcome.next (State.whenUp_of hs _)

theorem Access.timeoutRaise_eq (a : Access) :
    a.timeoutRaise = (.downstreamTimeout,
      BitVec.ofNat 32 (a.req.addr.toNat + (match a.req.ce with | .ce0 => 0 | .ce1 => 0x80000000))) :=
  congrArg (Prod.mk _) (timeoutDetail_eq _ _)

/-- An expiry by the requester of the access. -/
theorem State.expireAccess_eq {s : State} {a : Access} (ha : s.port.access = some a) (hexp : a.expired = true) :
    s.expireAccess =
      if a.givenUp then s.freePort.raise a.timeoutRaise.1 a.timeoutRaise.2
      else
        match a.who with
        | .host => s.freePort.hostFailed [a.timeoutRaise]
        | .loader => (s.freePort.raise a.timeoutRaise.1 a.timeoutRaise.2).loaderReadFailed
        | .verifier => (s.freePort.raise a.timeoutRaise.1 a.timeoutRaise.2).endVerification .originUnreadable := by
  unfold State.expireAccess
  rw [ha]
  dsimp only
  rw [if_pos hexp]
  rfl

/-- A load in HEADER or BODY whose read fails ends with READ_TIMEOUT (R86). -/
theorem State.loaderReadFailed_eq {s : State} (h : s.loader.state = .header ∨ s.loader.state = .body) :
    s.loaderReadFailed = s.loadFailed .readTimeout := by
  unfold State.loaderReadFailed
  obtain h | h := h <;> rw [h]

/-- Settles O38: by the requester of the access that has come to its timeout. -/
theorem accessExpiryFailsTheAccess : Obligations.AccessExpiryFailsTheAccess := by
  intro s a d hs ha hd
  have hraise : a.timeoutRaise = (.downstreamTimeout, d) := by rw [hd]; exact a.timeoutRaise_eq
  refine ⟨fun h => ?_, fun h0 hsteps => ?_⟩
  · rw [exec_accessExpiry hs, State.expireAccess_of_not]
    intro b hb
    cases ha.symm.trans hb
    exact Access.not_expired h
  · have hexp : a.expired = true := by
      rw [Access.expired, Bool.and_eq_true]
      exact ⟨bne_iff_ne.mpr h0, beq_iff_eq.mpr hsteps⟩
    have heq := State.expireAccess_eq ha hexp
    rw [hraise] at heq
    rw [exec_accessExpiry hs, heq]
    refine ⟨fun hg => ?_, fun hg hwho t ht => ?_, fun hg hwho hst hacc => ?_, fun hg hwho v hv hstarter => ?_,
      fun hg hwho v hv => ?_⟩
    · rw [hg]
      rfl
    · rw [hg, if_neg (by decide), hwho]
      have hstate : s.freePort.hbi.state = .inFlight t := ht
      simp only [State.hostFailed, hstate]
      generalize hu : State.endTransaction _ t.dec false .failed _ = u
      obtain ⟨hhbi, hroles, hstore, hport, hregions, -, hsvp, -, -, -, hscu, -, -, -, -, hdown, href, -⟩ :=
        endOfTransaction _ u t.dec false .failed _ (.inr ⟨d, rfl⟩) hu.symm
      exact ⟨u, rfl, by rw [← hu]; exact State.inFlight_endTransaction _ _ _ _ _, congrArg Hbi.strobes hhbi, hport, hstore,
        hroles, hregions, hsvp, (congrArg Scu.state hscu).trans rfl, hu.symm, hdown d rfl, href⟩
    · rw [hg, if_neg (by decide), hwho]
      refine ⟨_, hacc.tableReleased .staged (fun l => rfl), ?_⟩
      exact congrArg Host.Outcome.next ((State.loaderReadFailed_eq (by exact hst)).trans (State.loadFailed_eq _ _))
    · rw [hg, if_neg (by decide), hwho]
      exact congrArg Host.Outcome.next
        (State.endVerification_verifySet (s := s.freePort.raise .downstreamTimeout d) (v := v) hv hstarter _)
    · rw [hg, if_neg (by decide), hwho]
      rfl

end Sys2Proof.Machine
end

section
/-! PROOF. Commit, gate, revert: the effect points, COMMIT, CANCEL_COMMIT, the expiry, REVERT, CLEAR_RETAINED (O27, O28,
O30, O31). -/

namespace Sys2Proof.Machine

open Sys2Proof

set_option Elab.async false

/-! ### Bad lines of a table (R67, R74) -/

/-- The bad line that an entry names, if it does. -/
def State.badLineOf (s : State) (e : Entry) : Option LineIdx :=
  match e.storeLine with
  | none => none
  | some l => if s.store.lines[l].bad then some l else none

theorem State.badLineOf_eq_some_iff {s : State} {e : Entry} {l : LineIdx} :
    s.badLineOf e = some l ↔ e.storeLine = some l ∧ s.store.lines[l].bad = true := by
  unfold State.badLineOf
  cases h : e.storeLine with
  | none => simp
  | some m =>
    simp only [Option.some.injEq]
    split
    case isTrue hb => exact ⟨fun h => ⟨Option.some.inj h, Option.some.inj h ▸ hb⟩, fun ⟨h, _⟩ => congrArg some h⟩
    case isFalse hb => exact ⟨fun h => (nomatch h), fun ⟨h, hl⟩ => absurd (h ▸ hl) hb⟩

theorem State.badLineOf_eq_none_iff {s : State} {e : Entry} :
    s.badLineOf e = none ↔ ∀ l, e.storeLine = some l → s.store.lines[l].bad = false := by
  rw [Option.eq_none_iff_forall_ne_some]
  exact forall_congr' fun l => by rw [Ne, State.badLineOf_eq_some_iff, not_and, Bool.not_eq_true]

theorem State.firstBadLine_eq (s : State) (t : Table) :
    s.firstBadLine t = t.entries.findSome? fun x => s.badLineOf x.2 := rfl

theorem State.firstBadLine_eq_none_iff {s : State} {r : Role} :
    s.firstBadLine (s.table r) = none ↔ ¬ s.namesBadLine r := by
  rw [State.firstBadLine_eq, List.findSome?_eq_none_iff]
  constructor
  · rintro h ⟨i, e, l, hi, hl, hb⟩
    exact Bool.noConfusion ((State.badLineOf_eq_none_iff.mp (h (i, e) (Table.mem_entries.mpr hi)) l hl).symm.trans hb)
  · rintro h ⟨i, e⟩ hx
    refine State.badLineOf_eq_none_iff.mpr fun l hl => ?_
    by_contra hb
    exact h ⟨i, e, l, Table.mem_entries.mp hx, hl, by simpa using hb⟩

/-- The first bad line of a table is that of the lowest slot that names one. -/
theorem State.firstBadLine_of_slot {s : State} {t : Table} {i : Slot} {e : Entry} {l : LineIdx} (hi : t.slots[i] = some e)
    (hl : e.storeLine = some l) (hb : s.store.lines[l].bad = true)
    (hbelow : ∀ (j : Slot) (f : Entry) (k : LineIdx), j < i → t.slots[j] = some f → f.storeLine = some k →
      s.store.lines[k].bad = false) : s.firstBadLine t = some l := by
  obtain ⟨before, after, hsplit⟩ := List.append_of_mem (List.mem_finRange i)
  have hsorted : (before ++ i :: after).Pairwise (· < ·) := hsplit ▸ List.pairwise_lt_finRange 64
  have hlt : ∀ j ∈ before, j < i := fun j hj => (List.pairwise_append.mp hsorted).2.2 j hj i (List.mem_cons_self ..)
  have hentries : t.entries = before.filterMap (fun j => t.slots[j].map fun f => (j, f)) ++
      (i, e) :: after.filterMap (fun j => t.slots[j].map fun f => (j, f)) := by
    have hhead : (t.slots[i].map fun f => (i, f)) = some (i, e) := by rw [hi]; rfl
    rw [Table.entries, allSlots, hsplit, List.filterMap_append, 
      List.filterMap_cons_some (f := fun j : Slot => t.slots[j].map fun f => (j, f)) hhead]
  rw [State.firstBadLine_eq, hentries, List.findSome?_append, List.findSome?_eq_none_iff.mpr, Option.none_or,
    List.findSome?_cons_of_isSome]
  · exact State.badLineOf_eq_some_iff.mpr ⟨hl, hb⟩
  · rw [State.badLineOf_eq_some_iff.mpr ⟨hl, hb⟩]; rfl
  · rintro ⟨j, f⟩ hx
    obtain ⟨k, hk, hf⟩ := List.mem_filterMap.mp hx
    obtain ⟨f', hf', heq⟩ := Option.map_eq_some_iff.mp hf
    cases heq
    exact State.badLineOf_eq_none_iff.mpr fun m hm => hbelow j f m (hlt j hk) hf' hm

/-! ### The effect point of a commit (R67 to R70) -/

/-- What is done by the requester of a pending commit. -/
theorem PendingCommit.ite_isStartUp {α : Type} (pc : PendingCommit) (x y : α) :
    (if pc.isStartUp then x else y) = match pc.requester with
      | .service => y
      | .startUp => x := by
  obtain ⟨args, deadline, who, gateOpen⟩ := pc
  cases who <;> rfl

theorem State.commitBadLine_eq (s : State) (pc : PendingCommit) :
    s.commitBadLine pc =
      match pc.requester with
      | .service => s.commitFailed
      | .startUp => s.commitFailed.startUpFailed 9 := by
  have hfail : (State.raise { s.setTable .staged { s.table .staged with result := .badLine } with
      scu := { s.scu with state := .failed, commit := none } } .commitResult
      (detailBytes 1 0 (s.table .staged).generation)) = s.commitFailed := by
    rw [detailBytes_code]
    rfl
  unfold State.commitBadLine
  simp only [State.setTable_scu, hfail, State.startUpCommitFailed_eq]
  exact pc.ite_isStartUp _ _

theorem State.respond_svp (s : State) (tag : Byte) (r : ResultCode) (p : List Byte) :
    (s.respond tag r p).svp = { s.svp with responses := s.svp.responses ++ [⟨tag, r, p⟩] } := rfl

theorem State.traceMarker_source (s : State) (m : Marker) {i : Fin 14} (h : i ≠ EventSource.traceStopped.index) :
    (s.traceMarker m).events.sources[i] = s.events.sources[i] := by
  unfold State.traceMarker
  split
  · exact s.traceTake_source _ _ h
  · rfl

theorem State.traceMarker_inService (s : State) (m : Marker) :
    (s.traceMarker m).events.inService = s.events.inService := by
  unfold State.traceMarker
  split
  · exact s.traceTake_inService _ _
  · rfl

theorem raisesOnlyStop_marker (m : Marker) : RaisesOnlyStop fun s => s.traceMarker m :=
  fun x => ⟨fun _ h => x.traceMarker_source m h, x.traceMarker_inService m⟩

/-- The marker and the report of a commit that takes effect. -/
def State.commitMarker (s : State) : Marker :=
  { kind := .commit, newGeneration := (s.table .staged).generation, oldGeneration := (s.table .active).generation,
    letter := s.roles.staged }

/-- The state of a commit that has taken effect, before a start-up load ends on it. -/
def State.committed (s : State) : State :=
  s.rotate.recordWith (fun x => x.traceMarker s.commitMarker)
    [(.commitResult, detailBytes 0 0 (s.table .staged).generation)]

theorem State.commitDone_eq (s : State) (pc : PendingCommit) :
    s.commitDone pc =
      match pc.requester with
      | .service => s.committed
      | .startUp => s.committed.startUpOver := by
  rw [← s.committed.endStartUpLoad_eq]
  exact pc.ite_isStartUp _ _

theorem State.committed_keeps (s : State) :
    s.committed.hbi = s.hbi ∧ s.committed.loader = s.loader ∧ s.committed.svp = s.svp ∧ s.committed.regions = s.regions ∧
    s.committed.port = s.port ∧ s.committed.timeBase = s.timeBase ∧ s.committed.straps = s.straps ∧
    s.committed.inReset = s.inReset ∧ s.committed.roles = s.rotate.roles ∧ s.committed.tables = s.rotate.tables ∧
    s.committed.scu = s.rotate.scu ∧ s.committed.store = s.rotate.store := by
  unfold State.committed
  exact ⟨State.recordWith_hbi _ _ _ fun x => x.traceMarker_hbi _, State.recordWith_loader _ _ _ fun x => x.traceMarker_loader _,
    State.recordWith_svp _ _ _ fun x => x.traceMarker_svp _, State.recordWith_regions _ _ _ fun x => x.traceMarker_regions _,
    State.recordWith_port _ _ _ fun x => x.traceMarker_port _, State.recordWith_timeBase _ _ _ fun x => x.traceMarker_timeBase _,
    State.recordWith_straps _ _ _ fun x => x.traceMarker_straps _, State.recordWith_inReset _ _ _ fun x => x.traceMarker_inReset _,
    State.recordWith_roles _ _ _ fun x => x.traceMarker_roles _, State.recordWith_tables _ _ _ fun x => x.traceMarker_tables _,
    State.recordWith_scu _ _ _ fun x => x.traceMarker_scu _, State.recordWith_store _ _ _ fun x => x.traceMarker_store _⟩

/-- The tables by role after the rotation: the new active set, the old one retained, nothing staged (R68). -/
theorem State.rotate_table {s : State} (h : s.roles.distinct) :
    s.rotate.table .active = s.table .staged ∧ s.rotate.table .retained = s.table .active ∧
    s.rotate.table .staged = Table.empty := by
  obtain ⟨-, har, hsr⟩ := h
  exact ⟨Tables.get_set_ne _ _ _ _ hsr, Tables.get_set_ne _ _ _ _ har, Tables.get_set_self _ _ _⟩

/-- What a commit's effect does, with its marker (R68, R69, R70). -/
theorem State.committed_tookEffect {s : State} (hd : s.roles.distinct) (ha : s.accounted) : s.commitTookEffect s.committed := by
  obtain ⟨-, -, -, hregions, hport, htime, hstraps, hup, hroles, htables, hscu, hstore⟩ := s.committed_keeps
  obtain ⟨hactive, hretained, hstaged⟩ := State.rotate_table hd
  have htable (r : Role) : s.committed.table r = s.rotate.table r := by rw [State.table, hroles, htables]; rfl
  have hsource {i : Fin 14} (h : i ≠ EventSource.traceStopped.index) :
      s.committed.events.sources[i] = s.events.sources[i].raisedBy
        (raisesOf i [(.commitResult, detailBytes 0 0 (s.table .staged).generation)]) :=
    State.recordWith_source (raisesOnlyStop_marker _) _ _ h
  refine ⟨hroles, (htable _).trans hactive, (htable _).trans hretained, (htable _).trans hstaged, ?_, hscu, ?_,
    fun i h1 h2 => ?_, State.recordWith_inService (raisesOnlyStop_marker _) _ _, ?_, hregions, hport, htime, hstraps, hup⟩
  · rw [hstore]
    exact ha.tableReleased .retained fun l => rfl
  · rw [hsource (by decide), raisesOf_self, detailBytes_code]
    simp [SourceState.raisedBy]
  · rw [hsource h2, raisesOf_ne (Ne.symm h1)]
    rfl
  · exact State.recordWith_markedWith s.rotate s.commitMarker _ (by decide)

/-- The effect point of a pending commit, by its bad-line check (R67, R68). -/
theorem State.commitEffect_spec {s : State} {pc : PendingCommit} (hc : s.scu.commit = some pc) :
    (s.namesBadLine .staged → s.commitEffect =
      match pc.requester with
      | .service => s.commitFailed
      | .startUp => s.commitFailed.startUpFailed 9) ∧
    (¬ s.namesBadLine .staged → s.commitEffect =
      match pc.requester with
      | .service => s.committed
      | .startUp => s.committed.startUpOver) := by
  refine ⟨fun h => ?_, fun h => ?_⟩
  · obtain ⟨l, hl⟩ := Option.ne_none_iff_exists'.mp fun hn => State.firstBadLine_eq_none_iff.mp hn h
    simp only [State.commitEffect, hc, hl]
    exact s.commitBadLine_eq pc
  · have hn := State.firstBadLine_eq_none_iff.mpr h
    simp only [State.commitEffect, hc, hn]
    exact s.commitDone_eq pc

theorem exec_effectPoint {s : State} (hs : s.inReset = false) (hdue : s.commitDue = true) (hidle : s.inFlight = false) :
    exec .effectPoint s = .next s.commitEffect := by
  refine (congrArg Host.Outcome.next (State.whenUp_of hs _)).trans ?_
  simp only [hdue, hidle]
  rfl

/-- Settles O28: the effect point by its bad-line check and its requester. -/
theorem effectPointRotatesOrFails : Obligations.EffectPointRotatesOrFails := by
  intro s pc hs hc hdue hidle
  have hdue : s.commitDue = true := by
    simp only [State.commitDue, hc, Bool.or_eq_true, beq_iff_eq]
    exact hdue.symm
  obtain ⟨hbad, hgood⟩ := State.commitEffect_spec hc
  rw [exec_effectPoint hs hdue hidle]
  refine ⟨fun h => ?_, fun h hd ha => ?_⟩
  · rw [hbad h] <;> cases pc.requester <;> rfl
  · obtain ⟨hhbi, hloader, hsvp, -⟩ := s.committed_keeps
    have htook := State.committed_tookEffect hd ha
    rw [hgood h]
    cases pc.requester with
    | service => exact ⟨_, rfl, htook, hsvp, hhbi, hloader⟩
    | startUp =>
      refine ⟨_, rfl, htook, hsvp, ?_, ?_⟩
      · show { s.committed.hbi with held := s.committed.hbi.held && s.committed.straps.mode != StartMode.loadHold } = _
        obtain ⟨-, -, -, -, -, -, hstraps, -⟩ := s.committed_keeps
        rw [hhbi, hstraps]
      · show { s.committed.loader with state := .idle } = _
        rw [hloader]

/-! ### Arming a commit (R59, R61) -/

/-- The SCU with a commit pending. -/
def State.armed (s : State) (a : CommitArgs) (who : CommitRequester) : State :=
  { s with scu := { s.scu with
      state := .commitPending
      commit := some { args := a, deadline := a.deadline s.timeBase, requester := who, gateOpen := false } } }

theorem State.commitAtOnce_iff {s : State} {a : CommitArgs} :
    s.commitAtOnce a = true ↔ s.hbi.held = true ∨ (a.mode = .atBoundary ∧ s.inFlight = false) := by
  simp [State.commitAtOnce]

theorem State.armCommit_waits {s : State} {a : CommitArgs} (hheld : s.hbi.held = false)
    (h : a.mode = .gated ∨ s.inFlight = true) (who : CommitRequester) : s.armCommit a who = s.armed a who := by
  refine if_neg fun hat => ?_
  obtain hh | ⟨hm, hi⟩ := State.commitAtOnce_iff.mp hat
  · rw [hheld] at hh; cases hh
  · obtain h | h := h
    · rw [hm] at h; cases h
    · rw [hi] at h; cases h

theorem State.armCommit_atOnce {s : State} {a : CommitArgs} (h : s.hbi.held = true ∨ (a.mode = .atBoundary ∧ s.inFlight = false))
    (who : CommitRequester) : s.armCommit a who = (s.armed a who).commitEffect :=
  if_pos (State.commitAtOnce_iff.mpr h)

theorem CommitArgs.deadline_eq (a : CommitArgs) (now : Word) :
    a.deadline now = if a.mode = .gated ∧ a.timeout ≠ 0 then some (now + BitVec.ofNat 32 (1000 * a.timeout.toNat)) else none := by
  rw [CommitArgs.deadline, gateSteps, Nat.mul_comm]

/-- A start-up commit that is armed (R59, R61, R91). -/
theorem State.armCommit_startUp (s : State) (a : CommitArgs) : s.startUpCommitArmed (s.armCommit a .startUp) a := by
  refine ⟨fun hheld h => ?_, fun h => ?_⟩
  · rw [State.armCommit_waits hheld h, State.armed, CommitArgs.deadline_eq]
  · obtain ⟨hbad, hgood⟩ := State.commitEffect_spec (s := s.armed a .startUp) rfl
    rw [State.armCommit_atOnce h]
    refine ⟨fun hb => hbad hb, fun hb hd ha => ?_⟩
    obtain ⟨hhbi, hloader, hsvp, -, -, -, hstraps, -⟩ := (s.armed a .startUp).committed_keeps
    have htook := State.committed_tookEffect (s := s.armed a .startUp) hd ha
    rw [hgood hb]
    refine ⟨htook, hsvp, ?_, ?_⟩
    · show { (s.armed a .startUp).committed.loader with state := .idle } = _
      rw [hloader]
      rfl
    · show { (s.armed a .startUp).committed.hbi with held := (s.armed a .startUp).committed.hbi.held &&
        (s.armed a .startUp).committed.straps.mode != StartMode.loadHold } = _
      rw [hhbi, hstraps]
      rfl


/-! ### COMMIT (R60, R61) -/

theorem CommitMode.ofCode_eq_none {b : Byte} (h0 : b ≠ 0) (h1 : b ≠ 1) : CommitMode.ofCode b = none := by
  rw [CommitMode.ofCode, if_neg h0, if_neg h1]

theorem commitArgs_eq_none {p : List Byte}
    (h : (byteAt p 0 ≠ 0 ∧ byteAt p 0 ≠ 1) ∨ (byteAt p 0 = 1 ∧ (field p 4 2 = 0 ∨ 2048 < field p 4 2 ∨
      0x7FFFFF < field p 1 3 ∨ 0x800000 < field p 1 3 + field p 4 2))) : commitArgs p = none := by
  unfold commitArgs
  obtain ⟨h0, h1⟩ | ⟨h1, h⟩ := h
  · rw [CommitMode.ofCode_eq_none h0 h1]
  · have hmode : CommitMode.ofCode (byteAt p 0) = some .gated := by rw [h1]; rfl
    rw [hmode]
    exact if_pos h

theorem commitArgs_eq_some {p : List Byte} {a : CommitArgs}
    (h : (byteAt p 0 = 0 ∧ a = { mode := .atBoundary, gateBase := 0, gateLength := 0, timeout := 0 }) ∨
      (byteAt p 0 = 1 ∧ 1 ≤ field p 4 2 ∧ field p 4 2 ≤ 2048 ∧ field p 1 3 ≤ 0x7FFFFF ∧
        field p 1 3 + field p 4 2 ≤ 0x800000 ∧
        a = { mode := .gated, gateBase := BitVec.ofNat 23 (field p 1 3), gateLength := field p 4 2,
              timeout := BitVec.ofNat 16 (field p 6 2) })) :
    commitArgs p = some a ∧ (a.mode = .atBoundary → a.timeout = 0) := by
  unfold commitArgs
  obtain ⟨h0, rfl⟩ | ⟨h1, hlo, hhi, hbase, hend, rfl⟩ := h
  · have hmode : CommitMode.ofCode (byteAt p 0) = some .atBoundary := by rw [h0]; rfl
    rw [hmode]
    exact ⟨rfl, fun _ => rfl⟩
  · have hmode : CommitMode.ofCode (byteAt p 0) = some .gated := by rw [h1]; rfl
    rw [hmode]
    refine ⟨if_neg ?_, fun h => nomatch h⟩
    have : Config.hostLines = 0x800000 := rfl
    omega

theorem State.runCommit_of_accepted {s : State} {p : List Byte} {a : CommitArgs} (hst : s.scu.state = .verified)
    (ha : commitArgs p = some a) (hgen : (s.table .active).generation < (s.table .staged).generation) :
    s.runCommit p = (s.armCommit a .service, .ok,
      leBytes 2 (s.table .staged).generation.toNat ++ [(s.armCommit a .service).disposition]) := by
  simp only [State.runCommit, hst, ha]
  exact if_neg (BitVec.not_le.mpr hgen)

theorem State.runCommit_of_low {s : State} {p : List Byte} {a : CommitArgs} (hst : s.scu.state = .verified)
    (ha : commitArgs p = some a) (hgen : (s.table .staged).generation ≤ (s.table .active).generation) :
    s.runCommit p = s.refuse .generationLow := by
  simp only [State.runCommit, hst, ha]
  exact if_pos hgen

/-- The deadline of a commit whose timeout is 0 in mode AT_BOUNDARY (R59). -/
theorem CommitArgs.deadline_of_mode {a : CommitArgs} (h : a.mode = .atBoundary → a.timeout = 0) (now : Word) :
    a.deadline now = if a.timeout = 0 then none else some (now + BitVec.ofNat 32 (1000 * a.timeout.toNat)) := by
  rw [CommitArgs.deadline_eq]
  by_cases h0 : a.timeout = 0
  · rw [if_pos h0, if_neg fun hn => hn.2 h0]
  · have hm : a.mode = .gated := by
      cases hm : a.mode
      · exact absurd (h hm) h0
      · rfl
    rw [if_neg h0, if_pos ⟨hm, h0⟩]

/-- Settles O27: the tests in their order, then the three ends of an accepted commit. -/
theorem commitDecides : Obligations.CommitDecides := by
  intro s tag p rest hoff hp
  have hfit : payloadFits 0x30 p.length = true := by rw [hp]; rfl
  have hend {t : State} {r : ResultCode} {q : List Byte} (hb : (s.taken rest).runCommit p = (t.taken rest, r, q)) :
      exec .commit s = .next (t.ended rest tag r q) := exec_eq_ended rfl hoff hfit hb
  refine ⟨fun h => hend ?_, fun h => hend ?_, fun hst => ⟨fun h => hend ?_, fun a ha => ?_⟩⟩
  · obtain h | h | h := h <;> simp [State.runCommit, h]
  · obtain h | h | h | h := h <;> simp [State.runCommit, h]
  · simp [State.runCommit, hst, commitArgs_eq_none h]
  · obtain ⟨ha, hmode⟩ := commitArgs_eq_some ha
    refine ⟨fun hgen => hend (State.runCommit_of_low hst ha hgen), fun hgen => ?_⟩
    have hrun := State.runCommit_of_accepted (s := s.taken rest) hst ha hgen
    refine ⟨fun hheld hw => hend ?_, fun h => ⟨fun hb => hend ?_, fun hb hd hacc => ?_⟩⟩
    · rw [hrun, State.armCommit_waits (s := s.taken rest) hheld hw, ← CommitArgs.deadline_of_mode hmode]
      rfl
    · obtain ⟨hbad, -⟩ := State.commitEffect_spec (s := (s.taken rest).armed a .service) rfl
      rw [hrun, State.armCommit_atOnce (s := s.taken rest) h, hbad hb]
      rfl
    · obtain ⟨-, hgood⟩ := State.commitEffect_spec (s := (s.taken rest).armed a .service) rfl
      obtain ⟨hhbi, hloader, hsvp, -⟩ := ((s.taken rest).armed a .service).committed_keeps
      have htook := State.committed_tookEffect (s := (s.taken rest).armed a .service) hd hacc
      obtain ⟨-, -, -, -, -, hscu, -⟩ := id htook
      have hdisp : ((s.taken rest).armed a .service).committed.disposition = 1 := by
        rw [State.disposition, hscu]
        rfl
      have hexec : exec .commit s = .next (((s.taken rest).armed a .service).committed.respond tag .ok
          (leBytes 2 (s.table .staged).generation.toNat ++ [1])) := by
        refine congrArg Host.Outcome.next ((State.runReply_offers _ hoff hfit).trans ?_)
        rw [hrun, State.armCommit_atOnce (s := s.taken rest) h, hgood hb]
        dsimp only
        rw [hdisp]
        rfl
      refine ⟨_, hexec, htook, hhbi, hloader, ?_⟩
      rw [State.respond_svp, hsvp]
      rfl

/-! ### The expiry of the gate timer, and CANCEL_COMMIT (R65, R66) -/

theorem State.withdrawCommit_eq (s : State) : s.withdrawCommit = s.withdrawn := rfl

/-- The expiry of the gate timer, by the requester of the commit (R65). -/
theorem State.expireGate_eq {s : State} {pc : PendingCommit} (hc : s.scu.commit = some pc)
    (hd : pc.deadline = some s.timeBase) :
    s.expireGate =
      match pc.requester with
      | .service => s.withdrawn.raise .commitResult (BitVec.ofNat 32 (2 + 65536 * (s.table .staged).generation.toNat))
      | .startUp => (s.withdrawn.raise .commitResult
          (BitVec.ofNat 32 (2 + 65536 * (s.table .staged).generation.toNat))).startUpFailed 128 := by
  have hdetail : detailBytes 2 0 (s.table .staged).generation =
      BitVec.ofNat 32 (2 + 65536 * (s.table .staged).generation.toNat) := detailBytes_code _ _
  unfold State.expireGate
  rw [if_pos ((State.gateTimerExpired_iff hc).mpr hd), hc, hdetail]
  simp only [State.withdrawCommit_eq, Option.any_some, State.startUpCommitFailed_eq]
  exact pc.ite_isStartUp _ _

/-- The time base stands at a deadline exactly so many steps after its start. -/
theorem deadline_reached_iff (t0 now : Word) {n : Nat} (hn : n < 2 ^ 32) : t0 + BitVec.ofNat 32 n = now ↔ (now - t0).toNat = n := by
  constructor
  · rintro rfl
    rw [BitVec.add_comm, BitVec.add_sub_cancel, BitVec.toNat_ofNat, Nat.mod_eq_of_lt hn]
  · intro h
    rw [← h, BitVec.ofNat_toNat, BitVec.setWidth_eq, BitVec.add_comm, BitVec.sub_add_cancel]

theorem exec_cancelCommit {s : State} (h : s.commitDue = true → s.inFlight = true) :
    exec .cancelCommit s = .next (s.runReply 0x31 State.runCancel) := by
  refine congrArg Host.Outcome.next (if_neg ?_)
  rw [Bool.and_eq_true, Bool.not_eq_true']
  rintro ⟨hdue, hidle⟩
  rw [h hdue] at hidle
  cases hidle

/-- Settles O30: by the deadline, and by the staged-set state. -/
theorem pendingCommitWithdrawn : Obligations.PendingCommitWithdrawn := by
  refine ⟨fun s pc t0 hs hc hd => ?_, fun s tag rest hoff hdue => ?_⟩
  · have hlt : 1000 * pc.args.timeout.toNat < 2 ^ 32 := by have := pc.args.timeout.isLt; omega
    have hexec : exec .gateTimerExpiry s = .next s.expireGate := congrArg Host.Outcome.next (State.whenUp_of hs _)
    have hreached : pc.deadline = some s.timeBase ↔ (s.timeBase - t0).toNat = 1000 * pc.args.timeout.toNat := by
      rw [hd, Option.some.injEq, deadline_reached_iff t0 s.timeBase hlt]
    refine ⟨fun h => ?_, fun h => ?_⟩
    · rw [hexec, State.expireGate_of_not]
      exact Bool.eq_false_iff.mpr fun he => h (hreached.mp ((State.gateTimerExpired_iff hc).mp he))
    · rw [hexec, State.expireGate_eq hc (hreached.mpr h)] <;> cases pc.requester <;> rfl
  · have hend {t : State} {r : ResultCode} {q : List Byte} (hb : (s.taken rest).runCancel [] = (t.taken rest, r, q)) :
        exec .cancelCommit s = .next (t.ended rest tag r q) := exec_eq_ended (exec_cancelCommit hdue) hoff rfl hb
    refine ⟨fun h => hend (if_neg h), fun pc h hc => hend ?_⟩
    refine (if_pos h).trans ?_
    simp only [State.taken_scu, hc, Option.any_some, State.startUpCommitFailed_eq]
    obtain ⟨args, deadline, who, gateOpen⟩ := pc
    cases who <;> rfl


/-! ### REVERT (R73, R74, R75) -/

/-- The roles after a revert. -/
def State.reverted (s : State) : State :=
  { s with roles := { s.roles with active := s.roles.retained, retained := s.roles.active } }

/-- The marker of a revert. -/
def State.revertMarker (s : State) : Marker :=
  { kind := .revert, newGeneration := (s.table .retained).generation, oldGeneration := (s.table .active).generation,
    letter := s.roles.retained }

theorem State.revertEffect_of_bad {s : State} {l : LineIdx} (h : s.firstBadLine (s.table .retained) = some l) (tag : Byte) :
    s.revertEffect tag =
      s.respond tag .badLine (leBytes 2 (s.table .retained).generation.toNat ++ [BitVec.ofNat 8 l.val]) := by
  simp only [State.revertEffect, h]

theorem State.revertEffect_of_good {s : State} (h : ¬ s.namesBadLine .retained) (tag : Byte) :
    s.revertEffect tag = (s.reverted.traceMarker s.revertMarker).respond tag .ok
      (leBytes 2 (s.table .retained).generation.toNat ++ leBytes 2 (s.table .active).generation.toNat) := by
  simp only [State.revertEffect, State.firstBadLine_eq_none_iff.mpr h]
  rfl

/-- The effect point of a REVERT, whatever the retained table names. -/
theorem State.revertEffect_outcome (s : State) (tag : Byte) : s.revertOutcome (s.revertEffect tag) tag := by
  refine ⟨fun i e l hi hl hb hbelow => State.revertEffect_of_bad (State.firstBadLine_of_slot hi hl hb hbelow) tag,
    fun h => ?_⟩
  rw [State.revertEffect_of_good h]
  refine ⟨State.traceMarker_roles _ _, State.traceMarker_tables _ _, State.traceMarker_store _ _, State.traceMarker_scu _ _,
    State.traceMarker_loader _ _, State.traceMarker_hbi _ _, State.traceMarker_port _ _, State.traceMarker_regions _ _,
    State.traceMarker_timeBase _ _, State.traceMarker_straps _ _, State.traceMarker_inReset _ _, ?_,
    fun i hi => State.traceMarker_source _ _ hi, State.traceMarker_inService _ _, s.reverted.traceMarker_marked s.revertMarker⟩
  rw [State.respond_svp, State.traceMarker_svp]
  rfl

/-- A REVERT that takes effect or is refused leaves the SCU as it is (R75). -/
theorem State.revertEffect_scu (s : State) (tag : Byte) : (s.revertEffect tag).scu = s.scu := by
  by_cases h : s.namesBadLine .retained
  · obtain ⟨l, hl⟩ := Option.ne_none_iff_exists'.mp fun hn => State.firstBadLine_eq_none_iff.mp hn h
    rw [State.revertEffect_of_bad hl]
    rfl
  · rw [State.revertEffect_of_good h, State.respond_scu, State.traceMarker_scu]
    rfl

theorem State.runRevert_of_refused {s : State} (h : s.scu.state = .commitPending ∨ s.scu.state = .loading)
    (q : QueuedCommand) : s.runRevert q = s.respond q.tag .busyState [] := by
  obtain h | h := h <;> simp only [State.runRevert, h]

theorem State.runRevert_of_accepted {s : State} (h1 : s.scu.state ≠ .commitPending) (h2 : s.scu.state ≠ .loading)
    (q : QueuedCommand) : s.runRevert q =
      if s.inFlight && !s.hbi.held then
        { s with svp := { s.svp with executing := some { tag := q.tag, what := .revert } } }
      else s.revertEffect q.tag := by
  unfold State.runRevert
  split
  case h_1 h => exact absurd h h1
  case h_2 h => exact absurd h h2
  case h_3 => rfl

theorem exec_revert {s : State} {tag : Byte} {rest : List QueuedCommand} (h : s.offers 0x32 tag [] rest) :
    exec .revert s = .next ((s.taken rest).runRevert ⟨tag, 0x32, []⟩) :=
  congrArg Host.Outcome.next (State.runCommand_offers _ h rfl)

/-- REVERT when it is taken from the queue: refused, waiting, or at once (R73). -/
theorem exec_revert_spec {s : State} {tag : Byte} {rest : List QueuedCommand} (h : s.offers 0x32 tag [] rest) :
    (s.scu.state = .commitPending ∨ s.scu.state = .loading → exec .revert s = .next (s.ended rest tag .busyState [])) ∧
    (s.scu.state ≠ .commitPending → s.scu.state ≠ .loading →
      (s.inFlight = true → s.hbi.held = false →
        exec .revert s =
          .next { s with svp := { s.svp with commands := rest, executing := some { tag := tag, what := .revert } } }) ∧
      (s.inFlight = false ∨ s.hbi.held = true →
        ∃ t, exec .revert s = .next t ∧ (s.taken rest).revertOutcome t tag)) := by
  rw [exec_revert h]
  refine ⟨fun hst => ?_, fun h1 h2 => ⟨fun hfl hheld => ?_, fun hat => ?_⟩⟩
  · rw [State.runRevert_of_refused (s := s.taken rest) hst]
    rfl
  · rw [State.runRevert_of_accepted (s := s.taken rest) h1 h2, if_pos]
    · rfl
    · show (s.inFlight && !s.hbi.held) = true
      rw [hfl, hheld]; rfl
  · rw [State.runRevert_of_accepted (s := s.taken rest) h1 h2, if_neg]
    · exact ⟨_, rfl, State.revertEffect_outcome _ _⟩
    · show ¬ (s.inFlight && !s.hbi.held) = true
      obtain hat | hat := hat <;> rw [hat] <;> simp

/-! ### REVERT_EFFECT, and the start-up commit behind it (R59, R74) -/

/-- The state in which a REVERT that has waited takes effect. -/
def State.unwaiting (s : State) : State := { s with svp := { s.svp with executing := none } }

theorem exec_revertEffect {s : State} {tag : Byte} (hs : s.inReset = false)
    (hx : s.svp.executing = some { tag := tag, what := .revert }) (hidle : s.inFlight = false) :
    exec .revertEffect s = .next (s.unwaiting.revertEffect tag).takeDeferred := by
  refine (congrArg Host.Outcome.next (State.whenUp_of hs _)).trans ?_
  simp only [hx, hidle, true_and, if_true]
  rfl

theorem State.takeDeferred_of_none {s : State} (h : s.scu.deferred = none) : s.takeDeferred = s := by
  simp only [State.takeDeferred, h]

/-- The deferred start-up commit is taken and armed as a request of its own (R59). -/
theorem State.takeDeferred_of_some {s : State} {a : CommitArgs} (h : s.scu.deferred = some a) (hst : s.scu.state = .verified)
    (hgen : (s.table .active).generation < (s.table .staged).generation) :
    s.takeDeferred = State.armCommit { s with scu := { s.scu with deferred := none } } a .startUp := by
  simp only [State.takeDeferred, h]
  exact if_pos ⟨hst, hgen⟩

/-- REVERT_EFFECT by what is deferred behind it. -/
theorem exec_revertEffect_spec {s : State} {tag : Byte} (hs : s.inReset = false)
    (hx : s.svp.executing = some { tag := tag, what := .revert }) (hidle : s.inFlight = false) :
    (s.scu.deferred = none → ∃ t, exec .revertEffect s = .next t ∧ s.unwaiting.revertOutcome t tag) ∧
    (∀ a : CommitArgs, s.scu.deferred = some a → a.mode = .gated → s.hbi.held = false → s.scu.state = .verified →
      s.roles.distinct → ¬ s.namesBadLine .retained →
      (s.table .retained).generation < (s.table .staged).generation →
      ∃ t, exec .revertEffect s = .next t ∧
        t.roles = { active := s.roles.retained, staged := s.roles.staged, retained := s.roles.active } ∧
        t.tables = s.tables ∧ t.store = s.store ∧ t.loader = s.loader ∧ t.hbi = s.hbi ∧ t.svp.executing = none ∧
        t.scu = { s.scu with
          state := .commitPending, deferred := none
          commit := some { args := a, requester := .startUp, gateOpen := false
                           deadline := if a.timeout = 0 then none else
                             some (s.timeBase + BitVec.ofNat 32 (1000 * a.timeout.toNat)) } }) ∧
    (∀ a : CommitArgs, s.scu.deferred = some a → s.scu.state = .verified → s.scu.commit = none →
      ∃ m u, exec .revertEffect s = .next u ∧ s.unwaiting.revertOutcome m tag ∧
        ((m.table .active).generation < (m.table .staged).generation →
          State.startUpCommitArmed { m with scu := { m.scu with deferred := none } } u a)) := by
  rw [exec_revertEffect hs hx hidle]
  have hout := s.unwaiting.revertEffect_outcome tag
  have hscu : (s.unwaiting.revertEffect tag).scu = s.scu := s.unwaiting.revertEffect_scu tag
  generalize s.unwaiting.revertEffect tag = m at *
  refine ⟨fun hdef => ?_, fun a hdef hmode hheld hst hd hb hgen => ?_, fun a hdef hst hc => ?_⟩
  · rw [State.takeDeferred_of_none (hscu ▸ hdef)]
    exact ⟨_, rfl, hout⟩
  · obtain ⟨hroles, htables, hstore, -, hloader, hhbi, -, -, htime, -, -, hsvp, -⟩ := hout.2 hb
    have hgen : (m.table .active).generation < (m.table .staged).generation := by
      simp only [State.table, hroles, htables]
      exact hgen
    rw [State.takeDeferred_of_some (hscu ▸ hdef) (hscu ▸ hst) hgen,
      State.armCommit_waits (by rw [hhbi]; exact hheld) (.inl hmode)]
    refine ⟨_, rfl, hroles, htables, hstore, hloader, hhbi, congrArg ServicePort.executing hsvp, ?_⟩
    have hdeadline : a.deadline m.timeBase = if a.timeout = 0 then none else
        some (s.timeBase + BitVec.ofNat 32 (1000 * a.timeout.toNat)) := by
      rw [CommitArgs.deadline_of_mode (fun h => by rw [hmode] at h; cases h), htime]
      rfl
    simp only [State.armed, hscu, hdeadline]
  · refine ⟨m, _, rfl, hout, fun hgen => ?_⟩
    rw [State.takeDeferred_of_some (hscu ▸ hdef) (hscu ▸ hst) hgen]
    exact State.armCommit_startUp _ _

/-! ### CLEAR_RETAINED (R76) -/

/-- The lines that reach count 0 in the release of a table are those that only it referenced. -/
theorem State.accounted.zeroed_release {s : State} (h : s.accounted) (r : Role) {st : LineStore}
    (hrel : s.store.tableReleased st (s.table r)) :
    st.zeroed (s.table r) = (s.table r).lines.countP fun l => s.store.lines[l].refCount == 1 := by
  obtain ⟨hlines, -⟩ := hrel
  refine List.countP_congr fun l hl => ?_
  have hpos : 0 < (s.table r).refs l := (s.table r).refs_eq_count l ▸ List.count_pos_iff.mpr hl
  obtain ⟨h1, h2⟩ := h.refs_le r l
  rw [hlines l]
  simp only [beq_iff_eq]
  omega

/-- Settles O31: REVERT and its effect point, and the release of the retained table. -/
theorem revertAndClearRetained : Obligations.RevertAndClearRetained := by
  refine ⟨⟨fun s tag rest h => exec_revert_spec h, fun s tag hs hx hidle => exec_revertEffect_spec hs hx hidle⟩,
    fun s tag rest hoff hacc => ?_⟩
  have hrel := hacc.tableReleased .retained fun _ => rfl
  refine ⟨_, hrel, exec_eq_ended rfl hoff rfl ?_⟩
  rw [← hacc.zeroed_release .retained hrel]
  rfl

end Sys2Proof.Machine
end

section
/-! PROOF. Regions and memory timing, LOAD_IMAGE and RELEASE_HOST (O32, O33, O34, O35). -/

namespace Sys2Proof.Machine

open Sys2Proof

set_option Elab.async false

/-! ### Codes read (R175) -/

theorem RegionKind.ofCode_eq_some_iff {b : Byte} {k : RegionKind} : RegionKind.ofCode b = some k ↔ b = k.code := by
  refine ⟨fun h => ?_, fun h => h ▸ RegionKind.ofCode_code k⟩
  unfold RegionKind.ofCode at h
  split at h
  case isTrue hb => cases h; exact hb
  case isFalse =>
    split at h
    case isTrue hb => cases h; exact hb
    case isFalse =>
      split at h
      case isTrue hb => cases h; exact hb
      case isFalse => cases h

theorem WritePolicy.ofCode_eq_some_iff {b : Byte} {k : WritePolicy} : WritePolicy.ofCode b = some k ↔ b = k.code := by
  refine ⟨fun h => ?_, fun h => h ▸ WritePolicy.ofCode_code k⟩
  unfold WritePolicy.ofCode at h
  split at h
  case isTrue hb => cases h; exact hb
  case isFalse =>
    split at h
    case isTrue hb => cases h; exact hb
    case isFalse =>
      split at h
      case isTrue hb => cases h; exact hb
      case isFalse => cases h

theorem ChipEnable.ofCode_eq_some_iff {b : Byte} {k : ChipEnable} : ChipEnable.ofCode b = some k ↔ b = k.code :=
  ⟨fun h => (ChipEnable.code_of_ofCode b k h).symm, fun h => h ▸ ChipEnable.ofCode_code k⟩

theorem ChipEnable.ofCode_eq_none {b : Byte} (h0 : b ≠ 0) (h1 : b ≠ 1) : ChipEnable.ofCode b = none := by
  rw [ChipEnable.ofCode, if_neg h0, if_neg h1]

/-! ### The bytes of a region record (R97, R181) -/

/-- The bytes hold the fields of record number `n` (R181). -/
structure RegionRecord.LaidOut (r : RegionRecord) (n : Nat) (p : List Byte) : Prop where
  number   : (byteAt p 0).toNat = n
  flags    : byteAt p 1 = flagBits [r.enabled, r.trace]
  size     : (byteAt p 2).toNat = r.sizeExp.toNat
  kind     : byteAt p 3 = r.kind.code
  ce       : byteAt p 4 = r.ce.code
  wait     : (byteAt p 5).toNat = r.wait.toNat
  policy   : byteAt p 6 = r.policy.code
  reserved : byteAt p 7 = 0
  base     : field p 8 4 = r.base.toNat
  offset   : field p 12 4 = r.offset.toNat

theorem RegionRecord.laidOut_bytes (r : RegionRecord) (n : Fin 8) : r.LaidOut n.val (r.bytes n.val) where
  number := by
    show (BitVec.ofNat 8 n.val).toNat = n.val
    rw [BitVec.toNat_ofNat]
    omega
  flags := rfl
  size := by
    exact BitVec.toNat_setWidth_of_le (show 4 ≤ 8 by decide)
  kind := rfl
  ce := rfl
  wait := by
    exact BitVec.toNat_setWidth_of_le (show 4 ≤ 8 by decide)
  policy := rfl
  reserved := rfl
  base := (leNat_leBytes 4 _).trans (Nat.mod_eq_of_lt (r.base.isLt.trans (by decide)))
  offset := (leNat_leBytes 4 _).trans (Nat.mod_eq_of_lt (r.offset.isLt.trans (by decide)))

/-- Sixteen bytes, cut into the fields of SET_REGION. -/
theorem eq_setRegion_fields {p : List Byte} (hp : p.length = 16) :
    p = [byteAt p 0, byteAt p 1, byteAt p 2, byteAt p 3, byteAt p 4, byteAt p 5, byteAt p 6, byteAt p 7] ++
      leBytes 4 (field p 8 4) ++ leBytes 4 (field p 12 4) := by
  rw [leBytes_field (by omega), leBytes_field (by omega)]
  obtain ⟨v, rfl⟩ : ∃ v : Fin 16 → Byte, p = List.ofFn v :=
    ⟨fun i => p[i], List.ext_getElem (by simp [hp]) fun i _ _ => by rw [List.getElem_ofFn]; rfl⟩
  rfl

theorem eq_setWidth_of_toNat {b : Byte} {x : BitVec 4} (h : b.toNat = x.toNat) : b = x.setWidth 8 := by
  apply BitVec.eq_of_toNat_eq
  rw [h, BitVec.toNat_setWidth_of_le (by decide)]

theorem RegionRecord.LaidOut.eq_bytes {r : RegionRecord} {n : Nat} {p : List Byte} (h : r.LaidOut n p)
    (hp : p.length = 16) : p = r.bytes n := by
  have hnum : byteAt p 0 = BitVec.ofNat 8 n := by
    apply BitVec.eq_of_toNat_eq
    have := (byteAt p 0).isLt
    have := h.number
    rw [BitVec.toNat_ofNat]
    omega
  rw [eq_setRegion_fields hp, hnum, h.flags, eq_setWidth_of_toNat h.size, h.kind, h.ce, eq_setWidth_of_toNat h.wait, h.policy,
    h.reserved, h.base, h.offset]
  rfl

/-- The bytes of a well-formed record are accepted, and read as that record (R105). -/
theorem RegionRecord.LaidOut.setRegionArgs_eq {r : RegionRecord} {n : Fin 8} {p : List Byte} (h : r.LaidOut n.val p)
    (hr : r.fits) : setRegionArgs p = some (n, r) := by
  obtain ⟨hbase, hoff, hroom⟩ := hr
  obtain ⟨hflags, henabled, htrace⟩ := eq_flagBits_pair_iff.mp h.flags
  have hsize : (byteAt p 2).toNat ≤ 15 := by have := r.sizeExp.isLt; have := h.size; omega
  have hwait : (byteAt p 5).toNat ≤ 15 := by have := r.wait.isLt; have := h.wait; omega
  have hbaselt : field p 8 4 ≤ 0xFFFFFFF := by have := r.base.isLt; have := h.base; omega
  have hofflt : field p 12 4 < 0x4000000 := by have := r.offset.isLt; have := h.offset; omega
  have hdown : Config.downstreamSize = 0x4000000 := rfl
  have hnum : (byteAt p 0).toNat < 8 := h.number ▸ n.isLt
  have hlen : 4096 * 2 ^ (byteAt p 2).toNat = r.size := by rw [h.size]; rfl
  unfold setRegionArgs
  rw [RegionKind.ofCode_eq_some_iff.mpr h.kind, ChipEnable.ofCode_eq_some_iff.mpr h.ce,
    WritePolicy.ofCode_eq_some_iff.mpr h.policy]
  dsimp only
  rw [dif_pos hnum, if_neg, if_neg, if_neg, if_neg]
  · have hn : (⟨(byteAt p 0).toNat, hnum⟩ : Fin 8) = n := Fin.ext h.number
    have he : (byteAt p 2).setWidth 4 = r.sizeExp := BitVec.eq_of_toNat_eq (by
      rw [BitVec.toNat_setWidth, h.size, Nat.mod_eq_of_lt r.sizeExp.isLt])
    have hw : (byteAt p 5).setWidth 4 = r.wait := BitVec.eq_of_toNat_eq (by
      rw [BitVec.toNat_setWidth, h.wait, Nat.mod_eq_of_lt r.wait.isLt])
    have hb : BitVec.ofNat 28 (field p 8 4) = r.base := by rw [h.base, BitVec.ofNat_toNat, BitVec.setWidth_eq]
    have ho : BitVec.ofNat 26 (field p 12 4) = r.offset := by rw [h.offset, BitVec.ofNat_toNat, BitVec.setWidth_eq]
    rw [hn, henabled, htrace, he, hw, hb, ho]
  · rintro ⟨hk, hl⟩
    have := hroom hk
    have := h.offset
    omega
  · have := h.offset
    omega
  · rintro (hb | hb)
    · omega
    · rw [hlen, h.base] at hb
      exact hb hbase
  · rintro (h1 | h1 | h1 | h1)
    · omega
    · omega
    · omega
    · exact h1 h.reserved

/-- Bytes that SET_REGION accepts are those of the well-formed record it reads from them (R105). -/
theorem fits_and_laidOut_of_setRegionArgs {p : List Byte} {n : Fin 8} {r : RegionRecord}
    (h : setRegionArgs p = some (n, r)) : r.fits ∧ r.LaidOut n.val p := by
  unfold setRegionArgs at h
  split at h
  case h_2 => cases h
  case h_1 kind ce policy hkind hce hpolicy =>
    dsimp only at h
    split at h
    case isFalse => cases h
    case isTrue hnum =>
      split at h
      · cases h
      · split at h
        · cases h
        · split at h
          · cases h
          · split at h
            · cases h
            · rename_i hbits hbase hoff hroom
              cases h
              push Not at hbits hbase hoff hroom
              obtain ⟨hflags, hsize, hwait, hres⟩ := hbits
              obtain ⟨hbaselt, hbasemod⟩ := hbase
              obtain ⟨hoffmod, hofflt⟩ := hoff
              have hdown : Config.downstreamSize = 0x4000000 := rfl
              have he : ((byteAt p 2).setWidth 4).toNat = (byteAt p 2).toNat := by
                rw [BitVec.toNat_setWidth]; omega
              have hw : ((byteAt p 5).setWidth 4).toNat = (byteAt p 5).toNat := by
                rw [BitVec.toNat_setWidth]; omega
              have hb : (BitVec.ofNat 28 (field p 8 4)).toNat = field p 8 4 := by rw [BitVec.toNat_ofNat]; omega
              have ho : (BitVec.ofNat 26 (field p 12 4)).toNat = field p 12 4 := by rw [BitVec.toNat_ofNat]; omega
              refine ⟨⟨?_, ?_, fun hk => ?_⟩, ?_⟩
              · simp only [RegionRecord.size, he, hb, hbasemod]
              · simp only [ho, hoffmod]
              · simp only [RegionRecord.size, he, ho]
                exact hroom hk
              · exact
                  { number := rfl
                    flags := eq_flagBits_pair_iff.mpr ⟨hflags, rfl, rfl⟩
                    size := he.symm
                    kind := RegionKind.ofCode_eq_some_iff.mp hkind
                    ce := ChipEnable.ofCode_eq_some_iff.mp hce
                    wait := hw.symm
                    policy := WritePolicy.ofCode_eq_some_iff.mp hpolicy
                    reserved := hres
                    base := hb.symm
                    offset := ho.symm }

theorem setRegionArgs_bytes {r : RegionRecord} (n : Fin 8) (hr : r.fits) : setRegionArgs (r.bytes n.val) = some (n, r) :=
  (r.laidOut_bytes n).setRegionArgs_eq hr

theorem setRegionArgs_eq_none {p : List Byte} (hp : p.length = 16)
    (h : ∀ (n : Fin 8) (r : RegionRecord), r.fits → p ≠ r.bytes n.val) : setRegionArgs p = none := by
  refine Option.eq_none_iff_forall_ne_some.mpr fun x hx => ?_
  obtain ⟨n, r⟩ := x
  obtain ⟨hfits, hlaid⟩ := fits_and_laidOut_of_setRegionArgs hx
  exact h n r hfits (hlaid.eq_bytes hp)

theorem RegionRecord.bytes_length (r : RegionRecord) (n : Nat) : (r.bytes n).length = 16 := by
  simp [RegionRecord.bytes]

theorem flagBits_pair_toNat (a b : Bool) : (flagBits [a, b]).toNat = a.toNat + 2 * b.toNat := by
  cases a <;> cases b <;> rfl

/-! ### SET_REGION and READ_REGION in record form (R105, R107) -/

theorem State.runReadRegion_record (s : State) (n : Fin 8) :
    s.runReadRegion [BitVec.ofNat 8 n.val] = (s, .ok, s.regions.records[n].bytes n.val) := by
  have hn : (BitVec.ofNat 8 n.val).toNat = n.val := by rw [BitVec.toNat_ofNat]; omega
  unfold State.runReadRegion
  simp [hn]

/-- Settles O33: by the layout of the sixteen bytes. -/
theorem setRegionWritesRecordWhole : Obligations.SetRegionWritesRecordWhole := by
  refine ⟨fun s tag rest n r hr hoff => ?_, fun s tag rest n hoff => ?_, fun n r => ?_, fun s tag p rest hoff hp h => ?_⟩
  · have hfit : payloadFits 0x50 (r.bytes n.val).length = true := by rw [r.bytes_length]; rfl
    refine exec_eq_ended rfl hoff hfit ?_
    simp only [State.runSetRegion, setRegionArgs_bytes n hr]
    rfl
  · exact exec_eq_ended rfl hoff rfl (State.runReadRegion_record _ n)
  · have h := r.laidOut_bytes n
    exact ⟨r.bytes_length _, h.number, h.flags ▸ flagBits_pair_toNat _ _, h.size, h.kind, h.ce, h.wait, h.policy, h.reserved,
      h.base, h.offset⟩
  · have hfit : payloadFits 0x50 p.length = true := by rw [hp]; rfl
    refine exec_eq_ended rfl hoff hfit ?_
    simp only [State.runSetRegion, setRegionArgs_eq_none hp h, State.refuse_eq]


/-! ### SET_BACKGROUND and SET_MEMORY_TIMING (R106, R133) -/

theorem BackgroundKind.ofCode_code (k : BackgroundKind) : BackgroundKind.ofCode k.toRegion.code = some k := by
  cases k <;> rfl

theorem backgroundArgs_bytes (g : Background) :
    backgroundArgs [g.kind.toRegion.code, g.wait.setWidth 8, g.policy.code, flagByte g.trace] = some g := by
  have hwait : (g.wait.setWidth 8).toNat = g.wait.toNat := BitVec.toNat_setWidth_of_le (show 4 ≤ 8 by decide)
  have hlt := g.wait.isLt
  have hback : (g.wait.setWidth 8).setWidth 4 = g.wait := BitVec.eq_of_toNat_eq (by
    rw [BitVec.toNat_setWidth, hwait, Nat.mod_eq_of_lt hlt])
  simp only [backgroundArgs, byteAt_cons_zero, byteAt_cons_succ, BackgroundKind.ofCode_code, WritePolicy.ofCode_code,
    flagArg_flagByte]
  refine (if_neg (show ¬ 15 < (g.wait.setWidth 8).toNat by omega)).trans ?_
  rw [hback]

theorem backgroundArgs_eq_none {p : List Byte}
    (h : (byteAt p 0 ≠ 0 ∧ byteAt p 0 ≠ 2) ∨ 15 < (byteAt p 1).toNat ∨ 2 < (byteAt p 2).toNat ∨ 1 < (byteAt p 3).toNat) :
    backgroundArgs p = none := by
  unfold backgroundArgs
  split
  case h_2 => rfl
  case h_1 kind policy trace hkind hpolicy htrace =>
    refine if_pos ?_
    obtain ⟨h0, h2⟩ | h | h | h := h
    · rw [BackgroundKind.ofCode, if_neg h0, if_neg h2] at hkind
      cases hkind
    · exact h
    · rw [WritePolicy.ofCode_eq_some_iff.mp hpolicy] at h
      cases policy <;> exact absurd h (by decide)
    · rw [flagArg_of_gt h] at htrace
      cases htrace

theorem State.runSetMemoryTiming_read (s : State) (ce : ChipEnable) :
    s.runSetMemoryTiming [ce.code] = (s, .ok, [ce.code, s.port.timeoutOf ce]) := by
  simp only [State.runSetMemoryTiming, byteAt_cons_zero, ChipEnable.ofCode_code]
  rfl

theorem State.runSetMemoryTiming_set (s : State) (ce : ChipEnable) (v : Byte) :
    s.runSetMemoryTiming [ce.code, v, 0] =
      ({ s with port := s.port.setTimeout v ce }, .ok, [ce.code, s.port.timeoutOf ce, v]) := by
  have hfield : field [ce.code, v, 0] 1 2 = v.toNat := by simp [field, leNat]
  have hv := v.isLt
  simp only [State.runSetMemoryTiming, byteAt_cons_zero, ChipEnable.ofCode_code, hfield]
  rw [if_neg (by simp), if_neg (by omega), BitVec.ofNat_toNat, BitVec.setWidth_eq]

theorem State.runSetMemoryTiming_badCode {s : State} {p : List Byte} (h : 1 < (byteAt p 0).toNat) :
    s.runSetMemoryTiming p = s.refuse .badArgument := by
  have hnone : ChipEnable.ofCode (byteAt p 0) = none :=
    ChipEnable.ofCode_eq_none (fun h0 => by rw [h0] at h; exact absurd h (by decide))
      (fun h1 => by rw [h1] at h; exact absurd h (by decide))
  simp only [State.runSetMemoryTiming, hnone]

theorem State.runSetMemoryTiming_badValue {s : State} {p : List Byte} (hp : p.length = 3) (h : 255 < field p 1 2) :
    s.runSetMemoryTiming p = s.refuse .badArgument := by
  unfold State.runSetMemoryTiming
  split
  · rfl
  · rw [if_neg (by omega), if_pos h]

/-- Settles O34: by the arguments of the two commands. -/
theorem setBackgroundAndTiming : Obligations.SetBackgroundAndTiming := by
  refine ⟨fun s tag p rest hoff hp => ?_, fun s tag p rest hoff => ?_⟩
  · have hfit : payloadFits 0x52 p.length = true := by rw [hp]; rfl
    refine ⟨fun g hg => exec_eq_ended rfl hoff hfit ?_, fun h => exec_eq_ended rfl hoff hfit ?_⟩
    · simp only [State.runSetBackground, hg, backgroundArgs_bytes]
      rfl
    · simp only [State.runSetBackground, backgroundArgs_eq_none h, State.refuse_eq]
  · have hend {t : State} {r : ResultCode} {q : List Byte} (hp : p.length = 1 ∨ p.length = 3)
        (hb : (s.taken rest).runSetMemoryTiming p = (t.taken rest, r, q)) :
        exec .setMemoryTiming s = .next (t.ended rest tag r q) := by
      refine exec_eq_ended rfl hoff ?_ hb
      obtain hp | hp := hp <;> rw [hp] <;> rfl
    refine ⟨fun hp h => hend hp (State.runSetMemoryTiming_badCode h), fun hp => ?_, fun hp => ?_,
      fun hp h => hend (.inr hp) (State.runSetMemoryTiming_badValue hp h), fun v hp => ?_, fun v hp => ?_⟩
    · subst hp; exact hend (.inl rfl) (State.runSetMemoryTiming_read _ .ce0)
    · subst hp; exact hend (.inl rfl) (State.runSetMemoryTiming_read _ .ce1)
    · subst hp; exact hend (.inr rfl) (State.runSetMemoryTiming_set _ .ce0 v)
    · subst hp; exact hend (.inr rfl) (State.runSetMemoryTiming_set _ .ce1 v)

/-! ### Classification (R99, R100) -/

/-- The classification that a region record gives. -/
def RegionRecord.classification (r : RegionRecord) (i : Fin 8) : Classification :=
  { record := some i, kind := r.kind, base := r.base, ce := r.ce, offset := r.offset, wait := r.wait,
    policy := r.policy, trace := r.trace }

/-- The classification of the background rule. -/
def Background.classification (g : Background) : Classification :=
  { record := none, kind := g.kind.toRegion, base := 0, ce := .ce0, offset := 0, wait := g.wait,
    policy := g.policy, trace := g.trace }

/-- The record of lowest number that contains an address. -/
def RegionTable.lowest (t : RegionTable) (a : Nat) : Option (Fin 8) :=
  (List.finRange 8).find? fun i => t.records[i].contains a

theorem RegionTable.lowest_eq_some_iff {t : RegionTable} {a : Nat} {i : Fin 8} :
    t.lowest a = some i ↔ t.records[i].contains a = true ∧ ∀ j : Fin 8, j < i → t.records[j].contains a = false := by
  rw [RegionTable.lowest, ← Fin.find?_eq_find?_finRange, Fin.find?_eq_some_iff]

theorem RegionTable.lowest_eq_none_iff {t : RegionTable} {a : Nat} :
    t.lowest a = none ↔ ∀ i : Fin 8, t.records[i].contains a = false := by
  simp [RegionTable.lowest]

theorem RegionTable.classify_eq (t : RegionTable) (a : Nat) :
    t.classify a = match t.lowest a with
      | some i => t.records[i].classification i
      | none => t.background.classification := rfl

theorem RegionTable.classify_of_some {t : RegionTable} {a : Nat} {i : Fin 8} (h : t.lowest a = some i) :
    t.classify a = t.records[i].classification i := by
  rw [RegionTable.classify_eq, h]

theorem RegionTable.classify_of_none {t : RegionTable} {a : Nat} (h : t.lowest a = none) :
    t.classify a = t.background.classification := by
  rw [RegionTable.classify_eq, h]

theorem RegionRecord.contains_iff {r : RegionRecord} {a : Nat} :
    r.contains a = true ↔ r.enabled = true ∧ r.base.toNat ≤ a ∧ a < r.base.toNat + r.size := by
  simp [RegionRecord.contains, and_assoc]

/-- A mapped address that is not BLOCKED lies in the downstream space (R97, R100). -/
theorem RegionTable.mapped_lt {t : RegionTable} (h : ∀ i : Fin 8, t.records[i].fits) {a : Nat}
    (hk : (t.classify a).kind ≠ .blocked) : (t.classify a).mapped a < 0x4000000 := by
  cases hl : t.lowest a with
  | none =>
    rw [RegionTable.classify_of_none hl]
    exact Nat.mod_lt a (by decide)
  | some i =>
    rw [RegionTable.classify_of_some hl] at hk ⊢
    obtain ⟨-, -, hroom⟩ := h i
    obtain ⟨hin, -⟩ := RegionTable.lowest_eq_some_iff.mp hl
    obtain ⟨-, hlo, hhi⟩ := RegionRecord.contains_iff.mp hin
    have hroom : t.records[i].offset.toNat + t.records[i].size ≤ 0x4000000 := hroom hk
    show t.records[i].offset.toNat + (a - t.records[i].base.toNat) < 0x4000000
    omega

theorem State.runReadRegion_address {s : State} {p : List Byte} (hp : p.length = 4) (h : field p 0 4 ≤ 0xFFFFFFF) :
    s.runReadRegion p = (s, .ok, (s.regions.classify (field p 0 4)).bytes (field p 0 4)) := by
  rw [State.runReadRegion, if_neg (by omega), if_neg (by omega)]

theorem State.runReadRegion_badAddress {s : State} {p : List Byte} (hp : p.length = 4) (h : 0xFFFFFFF < field p 0 4) :
    s.runReadRegion p = s.refuse .badArgument := by
  rw [State.runReadRegion, if_neg (by omega), if_pos h]

theorem State.runReadRegion_badNumber {s : State} {p : List Byte} (hp : p.length = 1) (h : 8 < (byteAt p 0).toNat) :
    s.runReadRegion p = s.refuse .badArgument := by
  rw [State.runReadRegion, if_pos hp, dif_neg (by omega), if_neg fun h8 => by rw [h8] at h; exact absurd h (by decide)]

/-- Settles O35: by the record of lowest number, and the two forms of READ_REGION. -/
theorem classificationOfAnAddress : Obligations.ClassificationOfAnAddress := by
  refine ⟨fun t a => ⟨fun i hi hbelow => ?_, fun h => ?_, fun h hk => RegionTable.mapped_lt h hk⟩, fun r a => RegionRecord.contains_iff,
    fun s tag p rest hoff => ?_⟩
  · rw [RegionTable.classify_of_some (RegionTable.lowest_eq_some_iff.mpr ⟨hi, hbelow⟩)]
    exact ⟨rfl, rfl, rfl, rfl, rfl, rfl, rfl⟩
  · rw [RegionTable.classify_of_none (RegionTable.lowest_eq_none_iff.mpr h)]
    exact ⟨rfl, rfl, rfl, rfl, rfl, rfl, rfl⟩
  · have hend {r : ResultCode} {q : List Byte} (hp : p.length = 1 ∨ p.length = 4)
        (hb : (s.taken rest).runReadRegion p = (s.taken rest, r, q)) :
        exec .readRegion s = .next (s.ended rest tag r q) := by
      refine exec_eq_ended rfl hoff ?_ hb
      obtain hp | hp := hp <;> rw [hp] <;> rfl
    refine ⟨fun hp => ?_, fun hp h => hend (.inl hp) (State.runReadRegion_badNumber hp h),
      fun hp h => hend (.inr hp) (State.runReadRegion_badAddress hp h), fun hp h => ?_⟩
    · subst hp
      refine hend (.inl rfl) ?_
      have hflags : flagBits [false, s.regions.background.trace] = if s.regions.background.trace then 2 else 0 := by
        cases s.regions.background.trace <;> rfl
      rw [← hflags]
      rfl
    · refine (hend (.inr hp) (State.runReadRegion_address (s := s.taken rest) hp h)).trans ?_
      rfl


/-! ### LOAD_IMAGE and RELEASE_HOST (R82, R95) -/

theorem loadImageArgs_eq_none {p : List Byte}
    (h : (byteAt p 0 ≠ 0 ∧ byteAt p 0 ≠ 1) ∨ field p 1 4 % 32 ≠ 0 ∨ 0x3FFF4E0 < field p 1 4) : loadImageArgs p = none := by
  unfold loadImageArgs
  split
  · rfl
  case h_2 ce hce =>
    obtain ⟨h0, h1⟩ | h := h
    · rw [ChipEnable.ofCode_eq_none h0 h1] at hce
      cases hce
    · exact if_pos h

theorem loadImageArgs_eq_some {p : List Byte} {ce : ChipEnable} (hce : byteAt p 0 = ce.code) (hline : field p 1 4 % 32 = 0)
    (hroom : field p 1 4 ≤ 0x3FFF4E0) : loadImageArgs p = some (ce, BitVec.ofNat 26 (field p 1 4)) := by
  have hmax : Config.maxImageOffset = 0x3FFF4E0 := rfl
  unfold loadImageArgs
  rw [ChipEnable.ofCode_eq_some_iff.mpr hce]
  exact if_neg (by omega)

theorem State.runLoadImage_of_ne {s : State} (h : s.scu.state ≠ .empty) (p : List Byte) :
    s.runLoadImage p = s.refuse .busyState := if_neg h

theorem State.runLoadImage_of_none {s : State} {p : List Byte} (h : s.scu.state = .empty) (hp : loadImageArgs p = none) :
    s.runLoadImage p = s.refuse .badArgument := by
  rw [State.runLoadImage, if_pos h, hp]

theorem State.runLoadImage_of_some {s : State} {p : List Byte} {ce : ChipEnable} {at0 : DownAddr} (h : s.scu.state = .empty)
    (hp : loadImageArgs p = some (ce, at0)) :
    s.runLoadImage p = (s.beginLoad .command ce at0, .ok, [s.roles.staged.code]) := by
  rw [State.runLoadImage, if_pos h, hp]

/-- The start-up phase once the hold has been lifted (R90, R95). -/
theorem State.released_phase (s : State) :
    (State.startPhase { s with hbi := { s.hbi with held := false } }).code =
      if s.loader.state ≠ .idle ∧ s.loader.kind = .startUp then 1 else 2 := by
  have hiff : (s.loader.state != .idle && s.loader.kind == .startUp) = true ↔
      s.loader.state ≠ .idle ∧ s.loader.kind = .startUp := by simp
  unfold State.startPhase State.startUpInHand
  simp only [Bool.false_eq_true, if_false, hiff]
  split <;> rfl

/-- Settles O32: by the state of the staged set and the arguments, and by the hold. -/
theorem loadImageAndReleaseHost : Obligations.LoadImageAndReleaseHost := by
  refine ⟨fun s tag p rest hoff hp => ?_, fun s tag rest hoff => ?_⟩
  · have hfit : payloadFits 0x40 p.length = true := by rw [hp]; rfl
    refine ⟨fun hst => exec_eq_ended rfl hoff hfit (State.runLoadImage_of_ne (s := s.taken rest) hst p), fun hst =>
      ⟨fun h => exec_eq_ended rfl hoff hfit
        (State.runLoadImage_of_none (s := s.taken rest) hst (loadImageArgs_eq_none h)), fun ce hce hline hroom => ?_⟩⟩
    exact exec_eq_ended rfl hoff hfit
      (State.runLoadImage_of_some (s := s.taken rest) hst (loadImageArgs_eq_some hce hline hroom))
  · refine ⟨fun h => exec_eq_ended rfl hoff rfl (if_neg (by
      show ¬ s.hbi.held = true
      rw [h]; decide)), fun h => exec_eq_ended rfl hoff rfl ((if_pos h).trans ?_)⟩
    rw [← State.released_phase]
    rfl

end Sys2Proof.Machine
end

section
/-! PROOF. Verification of the staged set: the canonical order, the verifier's words, the start and the end (O25, O26, O40,
O41). -/

namespace Sys2Proof.Machine

open Sys2Proof

set_option Elab.async false

/-! ### The canonical order (R50) -/

/-- The order of the walk. -/
abbrev byLine (x y : Slot × Entry) : Prop := x.2.line ≤ y.2.line

theorem insertByLine_eq (x : Slot × Entry) (l : List (Slot × Entry)) : insertByLine x l = l.orderedInsert byLine x := by
  induction l with
  | nil => rfl
  | cons y ys ih => rw [insertByLine, List.orderedInsert_cons, ih]

theorem Table.walk_eq (t : Table) : t.walk = t.entries.insertionSort byLine :=
  congrArg (fun f => t.entries.foldr f []) (funext fun x => funext (insertByLine_eq x))

theorem Table.walk_perm (t : Table) : t.walk.Perm t.entries := t.walk_eq ▸ t.entries.perm_insertionSort byLine

theorem Table.walk_length (t : Table) : t.walk.length = t.count := t.walk_perm.length_eq

/-- The walk visits the entries by ascending line number. -/
theorem Table.walk_ascending (t : Table) : t.walk.Pairwise byLine := by
  have total : Std.Total byLine := ⟨fun x y => BitVec.le_total x.2.line y.2.line⟩
  have trans : IsTrans (Slot × Entry) byLine := ⟨fun _ _ _ h1 h2 => BitVec.le_trans h1 h2⟩
  exact t.walk_eq ▸ List.pairwise_insertionSort byLine t.entries

/-- With one entry for a line number the walk ascends strictly. -/
theorem Table.walk_strict {t : Table} (h : (t.entries.map fun x => x.2.line).Nodup) :
    t.walk.Pairwise fun x y => x.2.line < y.2.line := by
  have hnodup : (t.walk.map fun x => x.2.line).Nodup := (t.walk_perm.map _).nodup_iff.mpr h
  exact (t.walk_ascending.and (List.pairwise_map.mp hnodup)).imp fun ⟨hle, hne⟩ => BitVec.lt_of_le_ne hle hne

/-- The line numbers with the records of a table, in the order of the set CRC. -/
def State.records (s : State) (t : Table) : List (LineNumber × List Byte) :=
  t.walk.map fun x => (x.2.line, s.entryBytes x.2)

theorem State.setCrc_records (s : State) (t : Table) : s.setCrc t = crc32 ((s.records t).flatMap Prod.snd) := by
  rw [State.setCrc, State.records, List.flatMap_map]

theorem State.records_perm (s : State) (t : Table) :
    (s.records t).Perm (t.entries.map fun x => (x.2.line, s.entryBytes x.2)) := t.walk_perm.map _

theorem State.records_strict {s : State} {t : Table} (h : (t.entries.map fun x => x.2.line).Nodup) :
    (s.records t).Pairwise fun x y => x.1 < y.1 := List.pairwise_map.mpr (Table.walk_strict h)

/-- Two tables with the same line numbers and records have them in the same order, in whatever slots they stand. -/
theorem State.records_eq {s s' : State} {t t' : Table} (h : (t.entries.map fun x => x.2.line).Nodup)
    (hperm : (t.entries.map fun x => (x.2.line, s.entryBytes x.2)).Perm
      (t'.entries.map fun x => (x.2.line, s'.entryBytes x.2))) : s.records t = s'.records t' := by
  have hlines : (t.entries.map fun x => x.2.line).Perm (t'.entries.map fun x => x.2.line) := by
    have hfst := hperm.map Prod.fst
    rwa [List.map_map, List.map_map] at hfst
  have hall : (s.records t).Perm (s'.records t') :=
    ((s.records_perm t).trans hperm).trans (s'.records_perm t').symm
  exact hall.eq_of_pairwise (fun _ _ _ _ h1 h2 => absurd h2 (BitVec.lt_asymm h1)) (State.records_strict h)
    (State.records_strict (hlines.nodup_iff.mp h))

/-- Settles O25: the walk is a sorting by line number, and a sorted list of distinct keys depends on its elements only. -/
theorem setCrcIsOfSortedRecords : Obligations.SetCrcIsOfSortedRecords := by
  refine ⟨fun s t hkeyed => ⟨t.walk_perm, Table.walk_strict hkeyed.1, rfl⟩, fun s s' t t' hkeyed hperm => ?_,
    fun s t hfree => ?_⟩
  case refine_1 => rw [s.setCrc_records, s'.setCrc_records, State.records_eq hkeyed.1 hperm]
  case refine_2 =>
    have hnone : t.entries = [] := by
      refine List.eq_nil_iff_forall_not_mem.mpr fun x hx => ?_
      exact absurd (Table.mem_entries.mp hx) (by rw [hfree]; exact nofun)
    have hwalk : t.walk = [] := (hnone ▸ t.walk_perm : t.walk.Perm []).eq_nil
    have hcrc : crc32 [] = 0 := by decide
    rw [State.setCrc, hwalk]
    exact hcrc

/-! ### The end of a verification (R53, R88, R91) -/

/-- The state after the result of a verification has been written and the set has moved to VERIFIED or FAILED. -/
def State.resultWritten (s : State) (r : VerifyResult) : State :=
  State.setTable
    { s with scu := { s.scu with state := if r = VerifyResult.ok then .verified else .failed, verifier := none } }
    .staged { s.table .staged with result := r }

theorem State.endVerification_commandLoad {s : State} {v : VerifyRun} (hv : s.scu.verifier = some v)
    (hstarter : v.starter = .commandLoad) (r : VerifyResult) :
    s.endVerification r =
      { (s.resultWritten r).raise .loadResult (loadDetail 2 r.code.toNat (headerGeneration s.loader.header)) with
        loader := { s.loader with state := .idle } } := by
  unfold State.endVerification
  rw [hv]
  simp only [hstarter, loadReport_eq]
  rfl

theorem State.endVerification_startUpLoad {s : State} {v : VerifyRun} (hv : s.scu.verifier = some v)
    (hstarter : v.starter = .startUpLoad) {r : VerifyResult} (hr : r ≠ .ok) :
    s.endVerification r =
      ((s.resultWritten r).raise .startFailed
        (loadDetail 2 r.code.toNat (headerGeneration s.loader.header))).startUpOver := by
  unfold State.endVerification
  rw [hv]
  simp only [hstarter, loadReport_eq, State.endStartUpLoad_eq]
  exact if_neg hr

/-- The state in which a start-up load that is OK requests its commit. -/
def State.startUpVerified (s : State) : State :=
  { (s.resultWritten .ok).raise .loadResult
      (loadDetail 2 VerifyResult.ok.code.toNat (headerGeneration s.loader.header)) with
    loader := { s.loader with state := .commit } }

theorem State.endVerification_startUpOk {s : State} {v : VerifyRun} (hv : s.scu.verifier = some v)
    (hstarter : v.starter = .startUpLoad) : s.endVerification .ok = s.startUpVerified.requestStartUpCommit := by
  unfold State.endVerification
  rw [hv]
  simp only [hstarter, loadReport_eq]
  rfl

theorem headerGatePresent_iff {h : List Byte} (hb : byteAt h 5 = 0 ∨ byteAt h 5 = 1) :
    headerGatePresent h ↔ byteAt h 5 = 1 := by
  obtain hb | hb := hb <;> simp [headerGatePresent, hb]

/-- The items of the start-up commit, by the gate flag of its header and the hold (R91). -/
theorem State.startUpArgs_eq {s : State} (hb : byteAt s.loader.header 5 = 0 ∨ byteAt s.loader.header 5 = 1) :
    s.startUpArgs =
      if byteAt s.loader.header 5 = 1 ∧ s.hbi.held = false then
        { mode := .gated, gateBase := BitVec.ofNat 23 (field s.loader.header 12 3),
          gateLength := field s.loader.header 10 2, timeout := BitVec.ofNat 16 (field s.loader.header 16 2) }
      else { mode := .atBoundary, gateBase := 0, gateLength := 0, timeout := 0 } := by
  simp only [State.startUpArgs, headerGatePresent_iff hb]
  rfl

/-- With a generation above the active one the start-up commit is armed. -/
theorem State.startUpVerified_armed {s : State} (a : CommitArgs)
    (hgen : (s.table .active).generation < (s.table .staged).generation) (hd : s.roles.distinct) :
    s.startUpVerified.armStartUp a = s.startUpVerified.armCommit a .startUp := by
  refine if_pos ⟨rfl, ?_⟩
  have hactive : s.startUpVerified.table .active = s.table .active :=
    State.table_setTable_ne
      { s with scu := { s.scu with state := .verified, verifier := none } } hd .staged .active _ nofun
  have hstaged : s.startUpVerified.table .staged = { s.table .staged with result := .ok } :=
    State.table_setTable_self { s with scu := { s.scu with state := .verified, verifier := none } } .staged _
  rw [hactive, hstaged]
  exact hgen

/-- Settles O41: the walk by its specification, the end by the starter. -/
theorem verificationStartsAndEnds : Obligations.VerificationStartsAndEnds := by
  refine ⟨fun s w starter hw => ?_, fun s w v res gen hv hgen hw => ?_⟩
  · subst hw
    exact State.walkEntries_spec _ { starter := starter, passed := 0, crc := crc32Start, origin := [] } _
  · have hwritten : w = s.resultWritten res := hw
    subst hgen hwritten
    refine ⟨fun h => ?_, fun h => State.endVerification_commandLoad hv h res,
      fun h hr => State.endVerification_startUpLoad hv h hr, fun h hr a x ha hb hx => ?_⟩
    · rw [State.endVerification_verifySet hv h]
      rfl
    · subst hr
      have hverified : x = s.startUpVerified := hx
      have hargs : x.startUpArgs = a := by
        rw [ha, hverified]
        exact State.startUpArgs_eq (s := s.startUpVerified) hb
      rw [State.endVerification_startUpOk hv h, ← hverified]
      refine ⟨fun hwaits => ?_, fun hwaits hgen hd => ?_⟩
      · have hx' : x.revertWaits = true := hverified ▸ hwaits
        rw [State.requestStartUpCommit, if_pos hx', hargs]
      · have hx' : x.revertWaits = false := hverified ▸ hwaits
        have harm : x.armStartUp a = x.armCommit a .startUp := hverified ▸ s.startUpVerified_armed a hgen hd
        rw [State.requestStartUpCommit, if_neg (by rw [hx']; exact Bool.false_ne_true), hargs, harm]
        exact x.armCommit_startUp a

/-! ### The walk, entry by entry (R51) -/

theorem State.lineFailed_of_bad {s : State} {l : LineIdx} (h : s.store.lines[l].bad = true) : s.lineFailed l = s :=
  if_pos h

theorem State.lineFailed_of_good {s : State} {l : LineIdx} (h : s.store.lines[l].bad = false) :
    s.lineFailed l =
      State.raise { s with store := s.store.setLine l { s.store.lines[l] with bad := true } } .lineFault
        (BitVec.ofNat 32 l.val) := by
  unfold State.lineFailed
  rw [if_neg (by rw [h]; decide), detailBytes_line l]

/-- The line at which the walk ends with BAD_LINE at an entry: marked, or with a masked word that fails its test. -/
def State.failingLine (s : State) (e : Entry) : Option LineIdx :=
  match e.body with
  | .substitute mask l =>
    if s.store.lines[l].bad || s.store.lines[l].anyFails (maskedIdxs mask) then some l else none
  | _ => none

/-- The run after the words of an entry have passed their tests. -/
def State.passed (s : State) (v : VerifyRun) (e : Entry) : VerifyRun :=
  { v with crc := crc32Feed v.crc (s.entryBytes e), origin := [] }

theorem State.walkEntries_cons (s : State) (x : Slot × Entry) (todo : List (Slot × Entry)) (v : VerifyRun) :
    State.walkEntries (x :: todo) v s =
      match s.failingLine x.2 with
      | some l => (s.lineFailed l).endVerification .badLine
      | none =>
        match x.2.origin with
        | none => State.walkEntries todo { s.passed v x.2 with passed := v.passed + 1 } s
        | some _ => s.requestOrigin x.2 (s.passed v x.2) := rfl

theorem State.walkEntries_of_failing {s : State} {x : Slot × Entry} {l : LineIdx} (h : s.failingLine x.2 = some l)
    (todo : List (Slot × Entry)) (v : VerifyRun) :
    State.walkEntries (x :: todo) v s = (s.lineFailed l).endVerification .badLine := by
  simp only [State.walkEntries_cons, h]

theorem State.walkEntries_of_passing {s : State} {x : Slot × Entry} (h : s.failingLine x.2 = none)
    (ho : x.2.origin = none) (todo : List (Slot × Entry)) (v : VerifyRun) :
    State.walkEntries (x :: todo) v s =
      State.walkEntries todo { s.passed v x.2 with passed := v.passed + 1 } s := by
  simp only [State.walkEntries_cons, h, ho]

theorem State.walkEntries_of_origin {s : State} {x : Slot × Entry} {o : BitVec 16} (h : s.failingLine x.2 = none)
    (ho : x.2.origin = some o) (todo : List (Slot × Entry)) (v : VerifyRun) :
    State.walkEntries (x :: todo) v s = s.requestOrigin x.2 (s.passed v x.2) := by
  simp only [State.walkEntries_cons, h, ho]

/-! ### VERIFY_SET (R51) -/

theorem Tables.set_set (t : Tables) (x y : Table) (l : Letter) : (t.set x l).set y l = t.set y l := by
  cases l <;> rfl

theorem State.setTable_setTable (s : State) (r : Role) (x y : Table) :
    (s.setTable r x).setTable r y = s.setTable r y :=
  congrArg (fun tables => ({ s with tables := tables } : State)) (Tables.set_set _ _ _ _)

/-- The state in which the walk of a verification starts. -/
def State.verifying (s : State) (starter : VerifyStarter) : State :=
  State.setTable
    { s with scu := { s.scu with
        state := .verifying, verifier := some { starter := starter, passed := 0, crc := crc32Start, origin := [] } } }
    .staged { s.table .staged with result := .none }

theorem State.startVerification_goesOn (s : State) (starter : VerifyStarter) :
    (s.verifying starter).walkGoesOn starter 0 (s.table .staged).walk crc32Start (s.startVerification starter) :=
  State.walkEntries_spec _ { starter := starter, passed := 0, crc := crc32Start, origin := [] } _

theorem State.verifying_staged (s : State) (starter : VerifyStarter) :
    (s.verifying starter).table .staged = { s.table .staged with result := .none } :=
  State.table_setTable_self _ .staged _

/-- The end writes the record over the one that the start has left. -/
theorem State.verifyDone_verifying (s : State) (starter : VerifyStarter) (r : VerifyResult) (c : Word) :
    (s.verifying starter).verifyDone r c = s.verifyDone r c := by
  unfold State.verifyDone
  rw [State.verifying_staged]
  exact congrArg (fun x : State => x.raise .verifyDone _) (State.setTable_setTable
    { s with scu := { s.scu with
        state := if r = VerifyResult.ok then .verified else .failed, verifier := none, computedCrc := c } }
    .staged { s.table .staged with result := .none } { s.table .staged with result := r })

/-- A verification that VERIFY_SET started ends alike before and after the command is taken from the queue. -/
theorem State.endVerification_taken {s : State} {v : VerifyRun} (hv : s.scu.verifier = some v)
    (hstarter : v.starter = .verifySet) (r : VerifyResult) (rest : List QueuedCommand) :
    (s.taken rest).endVerification r = (s.endVerification r).taken rest := by
  rw [State.endVerification_verifySet hv hstarter,
    State.endVerification_verifySet (s := s.taken rest) hv hstarter]
  rfl

theorem State.lineFailed_taken (s : State) (l : LineIdx) (rest : List QueuedCommand) :
    (s.taken rest).lineFailed l = (s.lineFailed l).taken rest := by
  cases h : s.store.lines[l].bad with
  | true => rw [State.lineFailed_of_bad (s := s.taken rest) h, State.lineFailed_of_bad h]
  | false =>
    rw [State.lineFailed_of_good (s := s.taken rest) h, State.lineFailed_of_good h]
    rfl

theorem State.requestOrigin_taken {s : State} {v : VerifyRun} (hv : s.scu.verifier = some v)
    (hstarter : v.starter = .verifySet) (e : Entry) (v' : VerifyRun) (rest : List QueuedCommand) :
    (s.taken rest).requestOrigin e v' = (s.requestOrigin e v').taken rest := by
  have hend := State.endVerification_taken hv hstarter .originUnreadable rest
  unfold State.requestOrigin
  dsimp only [State.taken_regions]
  split
  · exact hend
  · rfl

theorem State.walkEntries_taken {s : State} {v : VerifyRun} (hv : s.scu.verifier = some v)
    (hstarter : v.starter = .verifySet) (rest : List QueuedCommand) (todo : List (Slot × Entry)) (v' : VerifyRun) :
    State.walkEntries todo v' (s.taken rest) = (State.walkEntries todo v' s).taken rest := by
  induction todo generalizing v' with
  | nil =>
    exact State.endVerification_taken (s := { s with scu := { s.scu with computedCrc := crc32Final v'.crc } }) hv
      hstarter _ rest
  | cons x todo ih =>
    have hfailed (l : LineIdx) :
        ((s.taken rest).lineFailed l).endVerification .badLine = ((s.lineFailed l).endVerification .badLine).taken rest := by
      rw [s.lineFailed_taken]
      exact State.endVerification_taken ((congrArg Scu.verifier (s.lineFailed_scu l)).trans hv) hstarter _ rest
    cases hline : s.failingLine x.2 with
    | some l =>
      rw [State.walkEntries_of_failing hline, State.walkEntries_of_failing (s := s.taken rest) hline, hfailed]
    | none =>
      cases ho : x.2.origin with
      | none =>
        rw [State.walkEntries_of_passing hline ho, State.walkEntries_of_passing (s := s.taken rest) hline ho]
        exact ih _
      | some o =>
        rw [State.walkEntries_of_origin hline ho, State.walkEntries_of_origin (s := s.taken rest) hline ho]
        exact State.requestOrigin_taken hv hstarter x.2 _ rest

theorem State.startVerification_taken (s : State) (rest : List QueuedCommand) :
    (s.taken rest).startVerification .verifySet = (s.startVerification .verifySet).taken rest :=
  State.walkEntries_taken (s := s.verifying .verifySet) rfl rfl rest _ _

/-- VERIFY_SET where it is taken. -/
theorem exec_verifySet {s : State} {tag : Byte} {rest : List QueuedCommand} (hoff : s.offers 0x27 tag [] rest)
    (hs : s.scu.state = .sealed ∨ s.scu.state = .failed) (us : List Upset) :
    exec (.verifySet us) s =
      .next ((State.startVerification { s with store := s.store.upset us } .verifySet).ended rest tag .ok
        (leBytes 2 (s.table .staged).generation.toNat ++ [BitVec.ofNat 8 (s.table .staged).count])) := by
  have hrun : (s.taken rest).runVerify us [] =
      (((s.upset us).taken rest).startVerification .verifySet, .ok,
        leBytes 2 (s.table .staged).generation.toNat ++ [BitVec.ofNat 8 (s.table .staged).count]) := if_pos hs
  rw [State.startVerification_taken] at hrun
  exact exec_eq_ended rfl hoff rfl hrun

/-- Without origin checks and with every masked word good the set CRC decides. -/
theorem State.startVerification_decides {s : State} (h : ∀ x ∈ (s.table .staged).walk, s.passesWalk x.2) :
    s.startVerification .verifySet =
      s.verifyDone (if s.setCrc (s.table .staged) = (s.table .staged).expectedCrc then .ok else .crcMismatch)
        (s.setCrc (s.table .staged)) := by
  rw [s.startVerification_goesOn .verifySet (s.table .staged).walk [] (List.append_nil _).symm h
    (s.setCrc (s.table .staged)) rfl, State.verifying_staged]
  refine (State.endVerification_verifySet (s := { s.verifying .verifySet with scu := { (s.verifying .verifySet).scu with
    computedCrc := s.setCrc (s.table .staged) } }) rfl rfl _).trans ?_
  exact s.verifyDone_verifying .verifySet _ _

/-- The first line of the walk that is marked, or has a failing word, ends it with BAD_LINE. -/
theorem State.startVerification_badLine {s : State} {pre post : List (Slot × Entry)} {x : Slot × Entry}
    {mask : BitVec 8} {l : LineIdx} (hwalk : (s.table .staged).walk = pre ++ x :: post)
    (hbody : x.2.body = .substitute mask l) (hpre : ∀ y ∈ pre, s.passesWalk y.2) :
    (s.store.lines[l].bad = true → s.startVerification .verifySet = s.verifyDone .badLine s.scu.computedCrc) ∧
    (s.store.lines[l].bad = false →
      (∃ w : WordIdx, mask.getLsbD w.val = true ∧ s.store.lines[l].words[w].agrees = false) →
      s.startVerification .verifySet =
        State.verifyDone (State.raise { s with store := s.store.setLine l { s.store.lines[l] with bad := true } }
          .lineFault (BitVec.ofNat 32 l.val)) .badLine s.scu.computedCrc) := by
  obtain ⟨hline, -⟩ := s.startVerification_goesOn .verifySet pre (x :: post) hwalk hpre
  obtain ⟨hbad, hfails⟩ := hline mask l hbody
  refine ⟨fun h => ?_, fun h hw => ?_⟩
  · rw [hbad h]
    refine (State.endVerification_verifySet (s := s.verifying .verifySet) rfl rfl _).trans ?_
    exact s.verifyDone_verifying .verifySet _ _
  · rw [hfails h hw]
    refine (State.endVerification_verifySet rfl rfl _).trans ?_
    exact State.verifyDone_verifying (State.raise { s with store := s.store.setLine l { s.store.lines[l] with bad := true } }
      .lineFault (BitVec.ofNat 32 l.val)) .verifySet _ _

/-- Settles O26: the command starts a verification, and the walk over a set without origin checks ends it. -/
theorem verifySetWithoutOriginsDecides : Obligations.VerifySetWithoutOriginsDecides := by
  refine fun s tag rest hoff hs => ⟨exec_verifySet hoff hs, fun horigin => ⟨fun hgood res hres => ?_,
    fun pre post i e mask l hwalk hbody hpre => ?_⟩⟩
  · have hpass : ∀ x ∈ (s.table .staged).walk, s.passesWalk x.2 := fun x hx =>
      have hmem := (s.table .staged).walk_perm.mem_iff.mp hx
      ⟨horigin x hmem, hgood x hmem⟩
    rw [exec_verifySet hoff hs, hres]
    exact congrArg (fun u : State => Host.Outcome.next (u.ended rest tag .ok _)) (State.startVerification_decides hpass)
  · have hpass : ∀ x ∈ pre, s.passesWalk x.2 := fun x hx =>
      have hmem := (s.table .staged).walk_perm.mem_iff.mp (hwalk ▸ List.mem_append_left _ hx)
      ⟨horigin x hmem, hpre x hx⟩
    obtain ⟨hbad, hfails⟩ := State.startVerification_badLine hwalk hbody hpass
    rw [exec_verifySet hoff hs]
    exact ⟨fun h => congrArg (fun u : State => Host.Outcome.next (u.ended rest tag .ok _)) (hbad h),
      fun h hw => congrArg (fun u : State => Host.Outcome.next (u.ended rest tag .ok _)) (hfails h hw)⟩

/-! ### The verifier's words (R52) -/

theorem State.requestOrigin_of_blocked {s : State} {e : Entry} {v : VerifyRun}
    (h : (s.regions.classify (32 * e.line.toNat + 4 * v.origin.length)).kind = .blocked) :
    s.requestOrigin e v = s.endVerification .originUnreadable := if_pos h

theorem State.requestOrigin_of_readable {s : State} {e : Entry} {v : VerifyRun} {n : Nat} {c : Classification}
    (hn : n = 32 * e.line.toNat + 4 * v.origin.length) (hc : c = s.regions.classify n) (h : c.kind ≠ .blocked) :
    s.requestOrigin e v =
      State.request { s with scu := { s.scu with verifier := some v } } .verifier
        (readRequest c.ce (BitVec.ofNat 26 (c.mapped n)) c.wait) := by
  subst hn hc
  exact if_neg h

section
variable {s : State} {v : VerifyRun} {pre post : List (Slot × Entry)} {x : Slot × Entry}

/-- The word of a verification in progress goes to the entry after those that have passed. -/
theorem State.verifierWord_eq (hv : s.scu.verifier = some v) (hwalk : (s.table .staged).walk = pre ++ x :: post)
    (hpassed : v.passed = pre.length) (w : Word) :
    s.verifierWord w =
      if v.origin.length + 1 < 8 then s.requestOrigin x.2 { v with origin := v.origin ++ [w] }
      else if x.2.origin = some (crc16 ((v.origin ++ [w]).flatMap mdBytes)) then
        State.walkEntries post { v with passed := v.passed + 1, origin := [] } s
      else s.endVerification .originMismatch := by
  have hdrop : (s.table .staged).walk.drop v.passed = x :: post := by
    rw [hwalk, hpassed, List.drop_left]
  have hlen : (v.origin ++ [w]).length = v.origin.length + 1 := List.length_append
  unfold State.verifierWord
  simp only [hv, hdrop, hlen]

theorem State.verifierWord_of_lt (hv : s.scu.verifier = some v) (hwalk : (s.table .staged).walk = pre ++ x :: post)
    (hpassed : v.passed = pre.length) (w : Word) (h : v.origin.length + 1 < 8) :
    s.verifierWord w = s.requestOrigin x.2 { v with origin := v.origin ++ [w] } :=
  (State.verifierWord_eq hv hwalk hpassed w).trans (if_pos h)

theorem State.verifierWord_of_mismatch (hv : s.scu.verifier = some v)
    (hwalk : (s.table .staged).walk = pre ++ x :: post) (hpassed : v.passed = pre.length) {w : Word} {o : BitVec 16}
    (ho : x.2.origin = some o) (hlen : v.origin.length = 7) (h : o ≠ crc16 ((v.origin ++ [w]).flatMap mdBytes)) :
    s.verifierWord w = s.endVerification .originMismatch := by
  rw [State.verifierWord_eq hv hwalk hpassed w, if_neg (by omega), if_neg]
  rw [ho]
  exact fun he => h (Option.some.inj he)

theorem State.verifierWord_of_match (hv : s.scu.verifier = some v)
    (hwalk : (s.table .staged).walk = pre ++ x :: post) (hpassed : v.passed = pre.length) {w : Word} {o : BitVec 16}
    (ho : x.2.origin = some o) (hlen : v.origin.length = 7) (h : o = crc16 ((v.origin ++ [w]).flatMap mdBytes)) :
    s.verifierWord w = State.walkEntries post { v with passed := v.passed + 1, origin := [] } s := by
  rw [State.verifierWord_eq hv hwalk hpassed w, if_neg (by omega), if_pos (by rw [ho, h])]

end

/-- The end of a verifier access: the port is freed, and the verifier takes its word. -/
theorem exec_accessComplete_verifier {s : State} {a : Access} (md : Word) (us : List Upset) (hs : s.inReset = false)
    (ha : s.port.access = some a) (hwho : a.who = .verifier) (hg : a.givenUp = false) :
    exec (.accessComplete md us) s = .next ((s.freePort.upset us).verifierWord md) := by
  rw [exec_accessComplete md us hs ha, hg, hwho]
  rfl

/-- What the verifier does with an origin word, whoever started it. -/
theorem exec_verifierWord {s w : State} {a : Access} {md : Word} {us : List Upset} {v : VerifyRun}
    {pre post : List (Slot × Entry)} {x : Slot × Entry} {o : BitVec 16} (hs : s.inReset = false)
    (ha : s.port.access = some a) (hwho : a.who = .verifier) (hg : a.givenUp = false) (hv : s.scu.verifier = some v)
    (hwalk : (s.table .staged).walk = pre ++ x :: post) (hpassed : v.passed = pre.length) (ho : x.2.origin = some o)
    (hw : w = { s with store := s.store.upset us, port := s.port.free s.timeBase }) :
    (∀ n c, n = 32 * x.2.line.toNat + 4 * (v.origin.length + 1) → c = s.regions.classify n → v.origin.length + 1 < 8 →
      c.kind ≠ .blocked →
      exec (.accessComplete md us) s =
        .next { w with
          scu := { w.scu with verifier := some { v with origin := v.origin ++ [md] } }
          port := w.port.request w.timeBase .verifier
            (readRequest c.ce (BitVec.ofNat 26 (c.mapped n)) c.wait) }) ∧
    (v.origin.length + 1 < 8 →
      (s.regions.classify (32 * x.2.line.toNat + 4 * (v.origin.length + 1))).kind = .blocked →
      exec (.accessComplete md us) s = .next (w.endVerification .originUnreadable)) ∧
    (v.origin.length = 7 → o ≠ crc16 ((v.origin ++ [md]).flatMap mdBytes) →
      exec (.accessComplete md us) s = .next (w.endVerification .originMismatch)) ∧
    (v.origin.length = 7 → o = crc16 ((v.origin ++ [md]).flatMap mdBytes) →
      ∃ u, exec (.accessComplete md us) s = .next u ∧ w.walkGoesOn v.starter (pre.length + 1) post v.crc u) := by
  have hlen : (v.origin ++ [md]).length = v.origin.length + 1 := List.length_append
  have hwv : w.scu.verifier = some v := hw ▸ hv
  have hregions : w.regions = s.regions := hw ▸ rfl
  have htable : w.table .staged = s.table .staged := by
    rw [hw]
    rfl
  have hww : (w.table .staged).walk = pre ++ x :: post := htable ▸ hwalk
  have hexec : exec (.accessComplete md us) s = .next (w.verifierWord md) := by
    rw [exec_accessComplete_verifier md us hs ha hwho hg, hw]
    rfl
  refine ⟨fun n c hn hc h hk => ?_, fun h hk => ?_, fun h hne => ?_, fun h heq => ⟨_, hexec, ?_⟩⟩
  · rw [hexec, State.verifierWord_of_lt hwv hww hpassed md h,
      State.requestOrigin_of_readable (hn.trans (by rw [hlen])) (hregions ▸ hc) hk]
    rfl
  · rw [hexec, State.verifierWord_of_lt hwv hww hpassed md h,
      State.requestOrigin_of_blocked (by rw [hlen, hregions]; exact hk)]
  · rw [hexec, State.verifierWord_of_mismatch hwv hww hpassed ho h hne]
  · rw [State.verifierWord_of_match hwv hww hpassed ho h heq, ← hpassed]
    exact w.walkEntries_spec post { v with passed := v.passed + 1, origin := [] }

/-- Settles O40: what the verifier does with a word, with the end by VERIFY_SET's report in the first half. -/
theorem verifierTakesItsWords : Obligations.VerifierTakesItsWords := by
  refine ⟨fun s a md us v pre post i e o w hs ha hwho hg hv hstarter hwalk hpassed ho hw => ?_,
    fun s a md us v pre post i e o w hs ha hwho hg hv hwalk hpassed ho hw =>
      exec_verifierWord hs ha hwho hg hv hwalk hpassed ho hw⟩
  obtain ⟨hnext, hblocked, hmismatch, hmatch⟩ := exec_verifierWord (md := md) hs ha hwho hg hv hwalk hpassed ho hw
  have hwv : w.scu.verifier = some v := hw ▸ hv
  have hend (r : VerifyResult) : w.endVerification r = w.verifyDone r s.scu.computedCrc := by
    rw [State.endVerification_verifySet hwv hstarter, hw]
  refine ⟨fun n c hn hc h => ⟨fun hk => ?_, fun hk => ?_⟩, fun h hne => ?_, fun h heq hpost => ?_⟩
  · rw [hnext n c hn hc h hk, hw]
  · rw [hblocked h (hn ▸ hc ▸ hk), hend]
  · rw [hmismatch h hne, hend]
  · obtain ⟨u, hu, hgoes⟩ := hmatch h heq
    have hexpected : (w.table .staged).expectedCrc = (s.table .staged).expectedCrc := by
      rw [hw]
      rfl
    rw [hu, hgoes [] [] hpost nofun (crc32Final v.crc) rfl, hexpected]
    exact congrArg Host.Outcome.next (State.endVerification_verifySet
      (s := { w with scu := { w.scu with computedCrc := crc32Final v.crc } }) hwv hstarter _)

end Sys2Proof.Machine
end

section
/-! PROOF. The entry record: the bytes and the record it parses to agree in both directions (O55). -/

namespace Sys2Proof.Machine

open Sys2Proof

set_option Elab.async false

/-! ### The fixed part (R178) -/

theorem EntryKind.ofCode_eq_some_iff {b : Byte} {k : EntryKind} : EntryKind.ofCode b = some k ↔ b = k.code :=
  ⟨fun h => (EntryKind.code_of_ofCode b k h).symm, fun h => h ▸ EntryKind.ofCode_code k⟩

theorem WatchDir.ofCode_eq_some_iff {b : Byte} {d : WatchDir} : WatchDir.ofCode b = some d ↔ b = d.code :=
  ⟨fun h => (WatchDir.code_of_ofCode b d h).symm, fun h => h ▸ WatchDir.ofCode_code d⟩

/-- A SUBSTITUTE record, and no other, has a nonzero mask (R2, R44). -/
abbrev FixedPart.formed (f : FixedPart) : Prop := f.kind = .substitute ↔ f.mask ≠ 0

/-- The eight bytes of a fixed part, field by field. -/
structure FixedPart.LaidOut (f : FixedPart) (p : List Byte) : Prop where
  long   : 8 ≤ p.length
  line   : field p 0 3 = f.line.toNat
  kind   : byteAt p 3 = f.kind.code
  mask   : byteAt p 4 = f.mask
  flags  : byteAt p 5 = flagBits [f.hasOrigin, f.report]
  length : (byteAt p 6).toNat = f.recordLength
  zero   : byteAt p 7 = 0
  formed : f.formed

/-- The fixed part that the bytes of a record name, whatever they are. -/
def fixedOf (p : List Byte) (kind : EntryKind) : FixedPart :=
  { line := BitVec.ofNat 23 (field p 0 3), kind := kind, mask := byteAt p 4,
    hasOrigin := (byteAt p 5).getLsbD 0, report := (byteAt p 5).getLsbD 1 }

theorem FixedPart.LaidOut.eq_fixedOf {f : FixedPart} {p : List Byte} (h : f.LaidOut p) : f = fixedOf p f.kind := by
  obtain ⟨-, h0, h1⟩ := eq_flagBits_pair_iff.mp h.flags
  have hline : BitVec.ofNat 23 (field p 0 3) = f.line := by
    rw [h.line, BitVec.ofNat_toNat, BitVec.setWidth_eq]
  rw [fixedOf, hline, h.mask, h0, h1]

/-- A fixed part parses exactly from its own eight bytes. -/
theorem parseFixed_eq_some_iff {p : List Byte} {f : FixedPart} : parseFixed p = some f ↔ f.LaidOut p := by
  have hformed (k : EntryKind) : ¬ ((k == .substitute) == (byteAt p 4 == 0)) = true ↔
      (k = .substitute ↔ byteAt p 4 ≠ 0) := by
    by_cases hk : k = .substitute <;> by_cases hm : byteAt p 4 = 0 <;> simp [hk, hm]
  have hread : parseFixed p = some f ↔ ∃ k, EntryKind.ofCode (byteAt p 3) = some k ∧ ¬ p.length < 8 ∧
      ¬ 0x7FFFFF < field p 0 3 ∧ (k = .substitute ↔ byteAt p 4 ≠ 0) ∧ ¬ 3 < (byteAt p 5).toNat ∧ byteAt p 7 = 0 ∧
      (byteAt p 6).toNat = (fixedOf p k).recordLength ∧ fixedOf p k = f := by
    unfold parseFixed
    cases EntryKind.ofCode (byteAt p 3) with
    | none => simp
    | some k =>
      simp only [Option.ite_none_left_eq_some, Option.some.injEq, exists_eq_left', hformed, ne_eq, not_not]
      exact Iff.rfl
  rw [hread]
  constructor
  case mp =>
    rintro ⟨k, hk, hlen, hline, hformed, hflags, hzero, hrec, rfl⟩
    refine ⟨by omega, ?_, EntryKind.ofCode_eq_some_iff.mp hk, rfl,
      eq_flagBits_pair_iff.mpr ⟨by omega, rfl, rfl⟩, hrec, hzero, hformed⟩
    rw [fixedOf, BitVec.toNat_ofNat, Nat.mod_eq_of_lt (by omega)]
  case mpr =>
    intro h
    obtain ⟨hle, -⟩ := eq_flagBits_pair_iff.mp h.flags
    have hlt := f.line.isLt
    have hline := h.line
    have hlong := h.long
    exact ⟨f.kind, EntryKind.ofCode_eq_some_iff.mpr h.kind, by omega, by omega, h.mask.symm ▸ h.formed, by omega, h.zero,
      h.eq_fixedOf ▸ h.length, h.eq_fixedOf.symm⟩

theorem FixedPart.bytes_length (f : FixedPart) : f.bytes.length = 8 := by
  simp [FixedPart.bytes]

/-- The bytes of a fixed part are laid out as it says. -/
theorem FixedPart.laidOut_bytes {f : FixedPart} (h : f.formed) (q : List Byte) : f.LaidOut (f.bytes ++ q) := by
  have hline := f.line.isLt
  have hlen := f.recordLength_bounds
  have hat (k : Nat) : byteAt (f.bytes ++ q) (3 + k) =
      byteAt ([f.kind.code, f.mask, flagBits [f.hasOrigin, f.report], BitVec.ofNat 8 f.recordLength, 0] ++ q) k := by
    rw [FixedPart.bytes, List.append_assoc]
    exact byteAt_append _ _ _ k (by simp)
  refine ⟨by rw [List.length_append, f.bytes_length]; omega, ?_, hat 0, hat 1, hat 2, ?_, hat 4, h⟩
  · rw [FixedPart.bytes, List.append_assoc, field_leBytes]
    omega
  · rw [hat 3]
    show (BitVec.ofNat 8 f.recordLength).toNat = _
    rw [BitVec.toNat_ofNat]
    omega

/-- Bytes laid out as a fixed part says begin with its bytes. -/
theorem FixedPart.LaidOut.take_eq {f : FixedPart} {p : List Byte} (h : f.LaidOut p) : p.take 8 = f.bytes := by
  have hlong := h.long
  have hcut : p.take 8 =
      leBytes 3 (field p 0 3) ++ [byteAt p 3, byteAt p 4, byteAt p 5, byteAt p 6, byteAt p 7] := by
    rw [leBytes_field (by omega)]
    obtain ⟨b0, b1, b2, b3, b4, b5, b6, b7, q, rfl⟩ : ∃ b0 b1 b2 b3 b4 b5 b6 b7 q,
        p = b0 :: b1 :: b2 :: b3 :: b4 :: b5 :: b6 :: b7 :: q := by
      match p, hlong with
      | b0 :: b1 :: b2 :: b3 :: b4 :: b5 :: b6 :: b7 :: q, _ => exact ⟨b0, b1, b2, b3, b4, b5, b6, b7, q, rfl⟩
    rfl
  have hlength : byteAt p 6 = BitVec.ofNat 8 f.recordLength := by
    rw [← h.length, BitVec.ofNat_toNat, BitVec.setWidth_eq]
  rw [hcut, h.line, h.kind, h.mask, h.flags, hlength, h.zero]
  rfl

theorem FixedPart.LaidOut.eq_append {f : FixedPart} {p : List Byte} (h : f.LaidOut p) : p = f.bytes ++ p.drop 8 := by
  rw [← h.take_eq, List.take_append_drop]

/-! ### The kind-specific part (R178) -/

/-- The data words that `n` words of bytes hold. -/
def dataWords (n : Nat) (q : List Byte) : List Word := (List.range n).map fun j => BitVec.ofNat 32 (field q (4 * j) 4)

theorem dataWords_append (n : Nat) {w : List Byte} (hw : w.length = 4) (q : List Byte) :
    dataWords (n + 1) (w ++ q) = BitVec.ofNat 32 (leNat w) :: dataWords n q := by
  have hhead : field (w ++ q) 0 4 = leNat w := by
    rw [field, List.drop_zero, ← hw, List.take_left]
  rw [dataWords, List.range_succ_eq_map, List.map_cons, List.map_map, Nat.mul_zero, hhead]
  refine congrArg (_ :: ·) (List.map_congr_left fun j _ => ?_)
  exact congrArg (BitVec.ofNat 32) (field_append w q 4 (4 * (j + 1)) (4 * j) (by omega))

theorem wordBytes_length (w : Word) : (wordBytes w).length = 4 := leBytes_length 4 _

theorem ofNat_leNat_wordBytes (w : Word) : BitVec.ofNat 32 (leNat (wordBytes w)) = w := by
  have := w.isLt
  rw [wordBytes, leNat_leBytes, Nat.mod_eq_of_lt (by omega), BitVec.ofNat_toNat, BitVec.setWidth_eq]

theorem wordBytes_ofNat_leNat {w : List Byte} (hw : w.length = 4) : wordBytes (BitVec.ofNat 32 (leNat w)) = w := by
  have hlt := leNat_lt w
  rw [hw] at hlt
  rw [wordBytes, BitVec.toNat_ofNat, Nat.mod_eq_of_lt (by omega)]
  exact hw ▸ leBytes_leNat w

theorem dataWords_flatMap (data : List Word) : dataWords data.length (data.flatMap wordBytes) = data := by
  induction data with
  | nil => rfl
  | cons w data ih =>
    rw [List.flatMap_cons, List.length_cons, dataWords_append _ (wordBytes_length w), ih, ofNat_leNat_wordBytes]

theorem flatMap_dataWords (n : Nat) (q : List Byte) (hq : q.length = 4 * n) :
    (dataWords n q).flatMap wordBytes = q := by
  induction n generalizing q with
  | zero => exact (List.eq_nil_of_length_eq_zero hq).symm
  | succ n ih =>
    have hw : (q.take 4).length = 4 := by rw [List.length_take]; omega
    rw [← q.take_append_drop 4, dataWords_append n hw, List.flatMap_cons, wordBytes_ofNat_leNat hw,
      ih _ (by rw [List.length_drop]; omega)]

theorem flatMap_wordBytes_length (data : List Word) : (data.flatMap wordBytes).length = 4 * data.length := by
  induction data with
  | nil => rfl
  | cons w data ih =>
    rw [List.flatMap_cons, List.length_append, wordBytes_length, ih, List.length_cons]
    omega

/-- The kind-specific part is one that a fixed part announces, with a data word for each mask bit. -/
def RecordBody.fits (b : RecordBody) (f : FixedPart) : Prop :=
  match b with
  | .substitute mask data => f.kind = .substitute ∧ f.mask = mask ∧ data.length = (maskedIdxs mask).length
  | .redirect _ _ => f.kind = .redirect
  | .watch _ _ => f.kind = .watch

/-- Length of the kind-specific part that a fixed part announces. -/
def FixedPart.bodyLength (f : FixedPart) : Nat :=
  match f.kind with
  | .substitute => 4 * (maskedIdxs f.mask).length
  | _ => 4

theorem FixedPart.recordLength_eq (f : FixedPart) :
    f.recordLength = 8 + (if f.hasOrigin then 4 else 0) + f.bodyLength := by
  unfold FixedPart.recordLength FixedPart.bodyLength
  cases f.kind <;> rfl

theorem RecordBody.fits.bytes_length {b : RecordBody} {f : FixedPart} (h : b.fits f) :
    b.bytes.length = f.bodyLength := by
  cases b with
  | substitute mask data =>
    obtain ⟨hk, hm, hd⟩ := h
    rw [FixedPart.bodyLength, hk, hm, ← hd]
    exact flatMap_wordBytes_length data
  | redirect ce target =>
    have hk : f.kind = .redirect := h
    rw [FixedPart.bodyLength, hk]
    rfl
  | watch threshold dir =>
    have hk : f.kind = .watch := h
    rw [FixedPart.bodyLength, hk]
    rfl

/-- The kind-specific part may stand after any bytes. -/
theorem parseBody_append (f : FixedPart) (pre q : List Byte) : parseBody f (pre ++ q) pre.length = parseBody f q 0 := by
  have hfield (k n : Nat) : field (pre ++ q) (pre.length + k) n = field q k n := field_append pre q n _ k rfl
  have hat (k : Nat) : byteAt (pre ++ q) (pre.length + k) = byteAt q k := byteAt_append pre q _ k rfl
  have hfield0 (n : Nat) : field (pre ++ q) pre.length n = field q 0 n := hfield 0 n
  unfold parseBody
  simp only [hfield, hat, hfield0, Nat.zero_add]

/-- A REDIRECT part of four bytes. -/
theorem redirectBytes_iff {q : List Byte} (hq : q.length = 4) {ce : ChipEnable} {target : DownLine} :
    (RecordBody.redirect ce target).bytes = q ↔ byteAt q 3 = ce.code ∧ field q 0 3 = target.toNat := by
  have ht := target.isLt
  constructor
  · rintro rfl
    refine ⟨rfl, ?_⟩
    show field (leBytes 3 target.toNat ++ _) 0 3 = _
    rw [field_leBytes]
    omega
  · rintro ⟨hce, htarget⟩
    show leBytes 3 target.toNat ++ [ce.code] = q
    rw [← hce, ← htarget, leBytes_field (by omega)]
    match q, hq with
    | [a, b, c, d], _ => rfl

/-- A WATCH part of four bytes. -/
theorem watchBytes_iff {q : List Byte} (hq : q.length = 4) {threshold : BitVec 16} {dir : WatchDir} :
    (RecordBody.watch threshold dir).bytes = q ↔
      byteAt q 2 = dir.code ∧ byteAt q 3 = 0 ∧ field q 0 2 = threshold.toNat := by
  have ht := threshold.isLt
  constructor
  · rintro rfl
    refine ⟨rfl, rfl, ?_⟩
    show field (leBytes 2 threshold.toNat ++ _) 0 2 = _
    rw [field_leBytes]
    omega
  · rintro ⟨hdir, hzero, hthreshold⟩
    show leBytes 2 threshold.toNat ++ [dir.code, 0] = q
    rw [← hdir, ← hzero, ← hthreshold, leBytes_field (by omega)]
    match q, hq with
    | [a, b, c, d], _ => rfl

/-- A kind-specific part of the announced length parses exactly from its own bytes. -/
theorem parseBody_eq_some_iff {f : FixedPart} {q : List Byte} (hq : q.length = f.bodyLength) {b : RecordBody} :
    parseBody f q 0 = some b ↔ b.fits f ∧ b.bytes = q := by
  unfold FixedPart.bodyLength at hq
  cases hk : f.kind with
  | substitute =>
    rw [hk] at hq
    have hparse : parseBody f q 0 = some (.substitute f.mask (dataWords (maskedIdxs f.mask).length q)) := by
      simp only [parseBody, hk, dataWords, Nat.zero_add]
    rw [hparse, Option.some.injEq]
    constructor
    · rintro rfl
      exact ⟨⟨hk, rfl, by simp [dataWords]⟩, flatMap_dataWords _ q hq⟩
    · rintro ⟨hfits, rfl⟩
      cases b with
      | substitute mask data =>
        obtain ⟨-, rfl, hlen⟩ := hfits
        rw [← hlen]
        exact congrArg _ (dataWords_flatMap data)
      | redirect ce target => exact absurd (hk.symm.trans hfits) nofun
      | watch threshold dir => exact absurd (hk.symm.trans hfits) nofun
  | redirect =>
    rw [hk] at hq
    have hparse : parseBody f q 0 = some b ↔ ∃ ce, byteAt q 3 = ChipEnable.code ce ∧ field q 0 3 ≤ 0x1FFFFF ∧
        .redirect ce (BitVec.ofNat 21 (field q 0 3)) = b := by
      simp only [← ChipEnable.ofCode_eq_some_iff, parseBody, hk, Nat.zero_add]
      cases ChipEnable.ofCode (byteAt q 3) <;> simp
    rw [hparse]
    constructor
    · rintro ⟨ce, hce, hle, rfl⟩
      exact ⟨hk, (redirectBytes_iff hq).mpr ⟨hce, by rw [BitVec.toNat_ofNat]; omega⟩⟩
    · rintro ⟨hfits, hbytes⟩
      cases b with
      | substitute mask data => exact absurd (hk.symm.trans hfits.1) nofun
      | redirect ce target =>
        obtain ⟨hce, htarget⟩ := (redirectBytes_iff hq).mp hbytes
        have := target.isLt
        exact ⟨ce, hce, by omega, by rw [htarget, BitVec.ofNat_toNat, BitVec.setWidth_eq]⟩
      | watch threshold dir => exact absurd (hk.symm.trans hfits) nofun
  | watch =>
    rw [hk] at hq
    have hparse : parseBody f q 0 = some b ↔ ∃ dir, byteAt q 2 = WatchDir.code dir ∧ byteAt q 3 = 0 ∧
        .watch (BitVec.ofNat 16 (field q 0 2)) dir = b := by
      simp only [← WatchDir.ofCode_eq_some_iff, parseBody, hk, Nat.zero_add]
      cases WatchDir.ofCode (byteAt q 2) <;> simp
    rw [hparse]
    constructor
    · rintro ⟨dir, hdir, hzero, rfl⟩
      have hlt := leNat_lt ((q.drop 0).take 2)
      have hlen : ((q.drop 0).take 2).length ≤ 2 := List.length_take_le ..
      have hpow : 256 ^ ((q.drop 0).take 2).length ≤ 256 ^ 2 := Nat.pow_le_pow_right (by decide) hlen
      have hfield : field q 0 2 < 65536 := hlt.trans_le hpow
      exact ⟨hk, (watchBytes_iff hq).mpr ⟨hdir, hzero, by rw [BitVec.toNat_ofNat]; omega⟩⟩
    · rintro ⟨hfits, hbytes⟩
      cases b with
      | substitute mask data => exact absurd (hk.symm.trans hfits.1) nofun
      | redirect ce target => exact absurd (hk.symm.trans hfits) nofun
      | watch threshold dir =>
        obtain ⟨hdir, hzero, hthreshold⟩ := (watchBytes_iff hq).mp hbytes
        exact ⟨dir, hdir, hzero, by rw [hthreshold, BitVec.ofNat_toNat, BitVec.setWidth_eq]⟩

/-! ### The whole record (R178) -/

/-- The bytes of an origin check. -/
def originBytes : Option (BitVec 16) → List Byte
  | none => []
  | some o => leBytes 2 o.toNat ++ [0, 0]

theorem originBytes_length (o : Option (BitVec 16)) : (originBytes o).length = if o.isSome then 4 else 0 := by
  cases o <;> rfl

theorem EntryRecord.bytes_eq (r : EntryRecord) : r.bytes = r.fixed.bytes ++ (originBytes r.origin ++ r.body.bytes) := by
  unfold EntryRecord.bytes
  rw [List.append_assoc]
  cases r.origin <;> rfl

/-- The record of a fixed part, an origin check and a kind-specific part. -/
def FixedPart.record (f : FixedPart) (o : Option (BitVec 16)) (b : RecordBody) : EntryRecord :=
  { line := f.line, body := b, origin := o, report := f.report }

/-- The fixed part of a record is the one that its kind-specific part fits. -/
theorem FixedPart.record_fixed {f : FixedPart} (hf : f.formed) {o : Option (BitVec 16)} (ho : o.isSome = f.hasOrigin)
    {b : RecordBody} (hb : b.fits f) : (f.record o b).fixed = f := by
  obtain ⟨line, kind, mask, hasOrigin, report⟩ := f
  have hmask : kind ≠ .substitute → mask = 0 := fun hk => by
    by_contra hm
    exact hk (hf.mpr hm)
  simp only at ho
  subst ho
  cases b with
  | substitute m data =>
    obtain ⟨hk, hm, -⟩ := hb
    simp only at hk hm
    subst hk hm
    rfl
  | redirect ce target =>
    have hk : kind = .redirect := hb
    subst hk
    rw [hmask nofun]
    rfl
  | watch threshold dir =>
    have hk : kind = .watch := hb
    subst hk
    rw [hmask nofun]
    rfl

/-- A well-formed record is one whose fixed part is formed and whose kind-specific part fits it. -/
theorem EntryRecord.wellFormed_iff {r : EntryRecord} :
    r.wellFormed = true ↔ r.fixed.formed ∧ r.body.fits r.fixed := by
  obtain ⟨line, body, origin, report⟩ := r
  cases body with
  | substitute mask data =>
    simp [EntryRecord.wellFormed, EntryRecord.fixed, FixedPart.formed, RecordBody.fits]
  | redirect ce target =>
    simp [EntryRecord.wellFormed, EntryRecord.fixed, FixedPart.formed, RecordBody.fits]
  | watch threshold dir =>
    simp [EntryRecord.wellFormed, EntryRecord.fixed, FixedPart.formed, RecordBody.fits]

/-- With its fixed part and origin check in their places, a record parses as its kind-specific part does. -/
theorem parseRecord_append {f : FixedPart} (hf : f.formed) {o : Option (BitVec 16)} (ho : o.isSome = f.hasOrigin)
    {q : List Byte} (hq : q.length = f.bodyLength) :
    parseRecord (f.bytes ++ (originBytes o ++ q)) = (parseBody f q 0).map (f.record o) := by
  have hfixed : parseFixed (f.bytes ++ (originBytes o ++ q)) = some f :=
    parseFixed_eq_some_iff.mpr (FixedPart.laidOut_bytes hf _)
  have hlen : (f.bytes ++ (originBytes o ++ q)).length = f.recordLength := by
    rw [List.length_append, List.length_append, f.bytes_length, originBytes_length, hq, f.recordLength_eq, ho]
    omega
  have hpre : (f.bytes ++ originBytes o).length = if f.hasOrigin then 12 else 8 := by
    rw [List.length_append, f.bytes_length, originBytes_length, ho]
    cases f.hasOrigin <;> rfl
  have hbody : parseBody f (f.bytes ++ (originBytes o ++ q)) (if f.hasOrigin then 12 else 8) = parseBody f q 0 := by
    rw [← List.append_assoc, ← hpre]
    exact parseBody_append f (f.bytes ++ originBytes o) q
  unfold parseRecord
  simp only [hfixed, hlen, hbody, ne_eq, not_true, if_false]
  cases o with
  | none =>
    rw [← ho]
    cases parseBody f q 0 <;> rfl
  | some o =>
    have hlt := o.isLt
    have hcheck : field (f.bytes ++ (originBytes (some o) ++ q)) 8 2 = o.toNat := by
      rw [field_append f.bytes _ 2 8 0 (by rw [f.bytes_length]), originBytes, List.append_assoc, field_leBytes]
      omega
    have hzero : field (f.bytes ++ (originBytes (some o) ++ q)) 10 2 = 0 := by
      rw [field_append f.bytes _ 2 10 2 (by rw [f.bytes_length])]
      rfl
    rw [← ho, hcheck, hzero, BitVec.ofNat_toNat, BitVec.setWidth_eq]
    cases parseBody f q 0 <;> rfl

/-- Bytes that parse are a formed fixed part, its origin check, and a kind-specific part of the announced length. -/
theorem exists_parts_of_parseRecord {p : List Byte} {r : EntryRecord} (h : parseRecord p = some r) :
    ∃ (f : FixedPart) (o : Option (BitVec 16)) (q : List Byte), f.formed ∧ o.isSome = f.hasOrigin ∧
      q.length = f.bodyLength ∧ p = f.bytes ++ (originBytes o ++ q) := by
  unfold parseRecord at h
  cases hfixed : parseFixed p with
  | none => simp [hfixed] at h
  | some f =>
    simp only [hfixed, Option.ite_none_left_eq_some, ne_eq, not_not] at h
    obtain ⟨hlen, hzero, -⟩ := h
    have hlaid := parseFixed_eq_some_iff.mp hfixed
    have hrec := f.recordLength_eq
    have hp := hlaid.eq_append
    cases ho : f.hasOrigin with
    | false =>
      rw [ho] at hrec
      exact ⟨f, none, p.drop 8, hlaid.formed, ho.symm, by rw [List.length_drop, hlen, hrec]; simp, hp⟩
    | true =>
      rw [ho] at hrec hzero
      have hzero' : field p 10 2 = 0 := by simpa using hzero
      have hlong : 12 ≤ p.length := by
        rw [hlen, hrec]
        simp
      have hlt : field p 8 2 < 65536 := by
        have := leNat_lt ((p.drop 8).take 2)
        rw [List.length_take, List.length_drop, Nat.min_eq_left (by omega)] at this
        exact this
      have hcheck : originBytes (some (BitVec.ofNat 16 (field p 8 2))) = (p.drop 8).take 4 := by
        rw [originBytes, BitVec.toNat_ofNat, Nat.mod_eq_of_lt (by omega)]
        have h8 : leBytes 2 (field p 8 2) = (p.drop 8).take 2 := leBytes_field (by omega)
        have h10 : [0, 0] = (p.drop 10).take 2 := by
          rw [← leBytes_field (by omega), hzero']
          rfl
        rw [h8, h10]
        match hd : p.drop 8, (by rw [List.length_drop]; omega : 4 ≤ (p.drop 8).length) with
        | a :: b :: c :: d :: q, _ =>
          have hd10 : p.drop 10 = c :: d :: q := by
            rw [show 10 = 8 + 2 from rfl, ← List.drop_drop, hd]
            rfl
          rw [hd10]
          rfl
      refine ⟨f, some (BitVec.ofNat 16 (field p 8 2)), p.drop 12, hlaid.formed, ho.symm, ?_, ?_⟩
      · rw [List.length_drop, hlen, hrec, if_pos rfl]
        omega
      · rw [hcheck, show p.drop 12 = (p.drop 8).drop 4 by rw [List.drop_drop], List.take_append_drop]
        exact hp

/-- Bytes parse to a record exactly when they are those of the record and it is well formed (R44, R178). -/
theorem parseRecord_eq_some_iff {p : List Byte} {r : EntryRecord} :
    parseRecord p = some r ↔ r.wellFormed = true ∧ r.bytes = p := by
  constructor
  case mp =>
    intro h
    obtain ⟨f, o, q, hf, ho, hq, rfl⟩ := exists_parts_of_parseRecord h
    rw [parseRecord_append hf ho hq, Option.map_eq_some_iff] at h
    obtain ⟨b, hb, rfl⟩ := h
    obtain ⟨hfits, rfl⟩ := (parseBody_eq_some_iff hq).mp hb
    have hfixed := FixedPart.record_fixed hf ho hfits
    refine ⟨EntryRecord.wellFormed_iff.mpr (hfixed.symm ▸ ⟨hf, hfits⟩), ?_⟩
    rw [EntryRecord.bytes_eq, hfixed]
    rfl
  case mpr =>
    rintro ⟨hwf, rfl⟩
    obtain ⟨hf, hfits⟩ := EntryRecord.wellFormed_iff.mp hwf
    rw [EntryRecord.bytes_eq, parseRecord_append hf rfl hfits.bytes_length,
      (parseBody_eq_some_iff hfits.bytes_length).mpr ⟨hfits, rfl⟩]
    rfl

theorem parseRecord_bytes {r : EntryRecord} (h : r.wellFormed = true) : parseRecord r.bytes = some r :=
  parseRecord_eq_some_iff.mpr ⟨h, rfl⟩

theorem parseRecord_eq_none {p : List Byte} (h : ∀ r : EntryRecord, r.wellFormed = true → p ≠ r.bytes) :
    parseRecord p = none := by
  refine Option.eq_none_iff_forall_ne_some.mpr fun r hr => ?_
  obtain ⟨hwf, hbytes⟩ := parseRecord_eq_some_iff.mp hr
  exact h r hwf hbytes.symm

/-- Settles O55: the two halves of the equivalence between parsing and being the bytes of a well-formed record. -/
theorem entryRecordsRoundTrip : Obligations.EntryRecordsRoundTrip :=
  ⟨fun _ h => parseRecord_bytes h, fun _ _ h => parseRecord_eq_some_iff.mp h⟩

end Sys2Proof.Machine
end

section
/-! PROOF. The staged-set commands: CLONE_ACTIVE, ADD_ENTRY, MODIFY_ENTRY, DISCARD_SET and the acceptance table (O15, O16,
O17, O18, O22, O23). -/

namespace Sys2Proof.Machine

open Sys2Proof

set_option Elab.async false

/-! ### CLONE_ACTIVE (R28, R43) -/

/-- Copies of some of a table's entries go to the entries' own slots. -/
theorem foldl_cloned_slots {act : Table} (es : List (Slot × Entry)) (hes : ∀ x ∈ es, act.slots[x.1] = some x.2)
    (t : Table) (i : Slot) :
    (es.foldl (fun t x => t.setSlot x.1 (some x.2.cloned)) t).slots[i] =
      if i ∈ es.map Prod.fst then act.slots[i].map Entry.cloned else t.slots[i] := by
  induction es generalizing t with
  | nil => rfl
  | cons x es ih =>
    obtain ⟨hx, hes⟩ := List.forall_mem_cons.mp hes
    rw [List.foldl_cons, ih hes]
    by_cases hi : i = x.1
    · subst hi
      simp only [List.map_cons, List.mem_cons, true_or, if_true, Table.setSlot_slots_self, hx, Option.map_some, ite_self]
    · simp only [List.map_cons, List.mem_cons, hi, false_or, Table.setSlot_slots_ne _ _ _ _ hi]

theorem Table.cloneInto_slots {staged act : Table} (h : ∀ i : Slot, staged.slots[i] = none) (i : Slot) :
    (staged.cloneInto act).slots[i] = act.slots[i].map Entry.cloned := by
  rw [Table.cloneInto, foldl_cloned_slots act.entries fun x hx => Table.mem_entries.mp hx]
  cases hi : act.slots[i] with
  | some e => exact if_pos (List.mem_map.mpr ⟨(i, e), Table.mem_entries.mpr hi, rfl⟩)
  | none => rw [h, Option.map_none, ite_self]

theorem Table.cloneInto_record (staged act : Table) :
    (staged.cloneInto act).generation = staged.generation ∧ (staged.cloneInto act).expectedCrc = staged.expectedCrc ∧
      (staged.cloneInto act).result = staged.result := by
  unfold Table.cloneInto
  induction act.entries generalizing staged with
  | nil => exact ⟨rfl, rfl, rfl⟩
  | cons x es ih => exact ih (staged.setSlot x.1 (some x.2.cloned))

/-- Tables with the same occupied slots have the same count. -/
theorem Table.count_congr {t u : Table} (h : ∀ i : Slot, t.slots[i].isSome = u.slots[i].isSome) : t.count = u.count := by
  rw [Table.count_eq_countP, Table.count_eq_countP]
  exact List.countP_congr fun i _ => by rw [h i]

theorem LineStore.share_self (st : LineStore) (l : LineIdx) :
    (st.share l).lines[l] = { st.lines[l] with refCount := st.lines[l].refCount + 1 } := LineStore.setLine_self st l _

/-- The store after one more reference for each line that a list of entries names. -/
def LineStore.shareList (st : LineStore) (es : List (Slot × Entry)) : LineStore :=
  es.foldl
    (fun st x =>
      match x.2.storeLine with
      | none => st
      | some l => st.share l)
    st

theorem LineStore.shareList_spec (es : List (Slot × Entry)) (st : LineStore) :
    (∀ l : LineIdx, (st.shareList es).lines[l] =
      { st.lines[l] with refCount := st.lines[l].refCount + (linesOf es).count l }) ∧
    (st.shareList es).freeList = st.freeList ∧ (st.shareList es).badList = st.badList ∧
    (st.shareList es).threshold = st.threshold := by
  induction es generalizing st with
  | nil => exact ⟨fun l => rfl, rfl, rfl, rfl⟩
  | cons x es ih =>
    cases hx : x.2.storeLine with
    | none =>
      have hlines : linesOf (x :: es) = linesOf es := List.filterMap_cons_none hx
      have hshare : st.shareList (x :: es) = st.shareList es := by
        simp only [LineStore.shareList, List.foldl_cons, hx]
      rw [hlines, hshare]
      exact ih st
    | some m =>
      have hlines : linesOf (x :: es) = m :: linesOf es := List.filterMap_cons_some hx
      have hshare : st.shareList (x :: es) = (st.share m).shareList es := by
        simp only [LineStore.shareList, List.foldl_cons, hx]
      rw [hlines, hshare]
      obtain ⟨ih1, ih2, ih3, ih4⟩ := ih (st.share m)
      refine ⟨fun l => ?_, ih2, ih3, ih4⟩
      rw [ih1 l]
      by_cases hl : l = m
      · subst hl
        simp only [st.share_self, List.count_cons_self]
        rw [Nat.add_right_comm, Nat.add_assoc]
      · rw [List.count_cons_of_ne (Ne.symm hl), LineStore.share, LineStore.setLine_ne _ _ _ _ hl]

theorem LineStore.shareAll_spec (st : LineStore) (t : Table) :
    (∀ l : LineIdx, (st.shareAll t).lines[l] =
      { st.lines[l] with refCount := st.lines[l].refCount + t.refs l }) ∧
    (st.shareAll t).freeList = st.freeList ∧ (st.shareAll t).badList = st.badList ∧
    (st.shareAll t).threshold = st.threshold := by
  obtain ⟨hlines, hlists⟩ := st.shareList_spec t.entries
  exact ⟨fun l => t.refs_eq_count l ▸ hlines l, hlists⟩

/-- Settles O15: the copies by slot, the counts by the lines that the entries name. -/
theorem cloneActiveCopiesAndShares : Obligations.CloneActiveCopiesAndShares := by
  intro s tag rest hoff hs hempty
  have hfree : ∀ i : Slot, (s.table .staged).slots[i] = none := fun i => by rw [hempty]; exact Table.slots_empty i
  have hslots := Table.cloneInto_slots (act := s.table .active) hfree
  obtain ⟨hgen, hcrc, hresult⟩ := (s.table .staged).cloneInto_record (s.table .active)
  obtain ⟨hlines, hfreeList, hbadList, hthreshold⟩ := s.store.shareAll_spec (s.table .active)
  refine ⟨(s.table .staged).cloneInto (s.table .active), s.store.shareAll (s.table .active),
    exec_eq_ended rfl hoff rfl (if_pos hs), hslots, ?_, ?_, ?_, Table.count_congr fun i => ?_, hlines, hfreeList,
    hbadList, hthreshold⟩
  · rw [hgen, hempty]
    rfl
  · rw [hcrc, hempty]
    rfl
  · rw [hresult, hempty]
    rfl
  · rw [hslots, Option.isSome_map]

/-! ### Filling and allocation (R22, R26, R34) -/

/-- The data word of a masked index is the one with as many set bits below it. -/
theorem maskedIdxs_idxOf {mask : BitVec 8} {i : WordIdx} (hi : mask.getLsbD i.val = true) :
    (maskedIdxs mask).idxOf i = patchIndex mask i := by
  have hcut : ∀ i : WordIdx, wordIdxs = wordIdxs.take i.val ++ i :: wordIdxs.drop (i.val + 1) ∧
      (wordIdxs.take i.val).map Fin.val = List.range i.val ∧ i ∉ wordIdxs.take i.val := by decide
  obtain ⟨hsplit, hrange, hnot⟩ := hcut i
  have hmask : maskedIdxs mask = (wordIdxs.take i.val).filter (fun j => mask.getLsbD j.val) ++
      i :: (wordIdxs.drop (i.val + 1)).filter fun j => mask.getLsbD j.val := by
    rw [maskedIdxs]
    conv_lhs => rw [hsplit]
    rw [List.filter_append, List.filter_cons_of_pos (p := fun j : WordIdx => mask.getLsbD j.val) hi]
  have hlen : ((wordIdxs.take i.val).filter fun j => mask.getLsbD j.val).length = patchIndex mask i := by
    rw [patchIndex, ← hrange, List.filter_map, List.length_map]
    rfl
  rw [hmask, List.idxOf_append_of_notMem fun h => hnot (List.mem_of_mem_filter h), List.idxOf_cons_self, hlen,
    Nat.add_zero]

theorem filledWords_get (f : WordIdx → Word) (i : WordIdx) : (filledWords f)[i] = ⟨f i, true⟩ := by
  fin_cases i <;> rfl

/-- The words of a fill, in the words of the statements (R22). -/
theorem StoreLine.filledAs_of_words {x : StoreLine} {mask : BitVec 8} {data : List Word}
    (h : x.words = filledWords (patchWord mask data)) : x.filledAs mask data := by
  intro i
  rw [h, filledWords_get, patchWord]
  cases hi : mask.getLsbD i.val with
  | true => rw [if_pos rfl, if_pos rfl, maskedIdxs_idxOf hi]
  | false => rfl

/-- The line store after the allocation of the head of the free list. -/
def LineStore.afterAllocation (st : LineStore) (l : LineIdx) (rest : List LineIdx) (mask : BitVec 8)
    (data : List Word) : LineStore :=
  { st with freeList := rest }.setLine l
    { st.lines[l] with words := filledWords (patchWord mask data), refCount := 1 }

theorem LineStore.allocated_afterAllocation (st : LineStore) (l : LineIdx) (rest : List LineIdx) (mask : BitVec 8)
    (data : List Word) : st.allocated (st.afterAllocation l rest mask data) l rest mask data := by
  have hself : (st.afterAllocation l rest mask data).lines[l] =
      { st.lines[l] with words := filledWords (patchWord mask data), refCount := 1 } := LineStore.setLine_self _ l _
  refine ⟨rfl, rfl, rfl, ?_, ?_, StoreLine.filledAs_of_words ?_, fun m hm => LineStore.setLine_ne _ l m _ hm⟩ <;>
    rw [hself]

theorem State.allocate_of_nil {s : State} (h : s.store.freeList = []) (mask : BitVec 8) (data : List Word) :
    s.allocate mask data = none := (s.allocate_spec mask data).1 h

/-- The FREE_LOW test of an allocation comes with the number of lines left free (R34). -/
theorem detailBytes_free {n : Nat} (h : n < 256) : detailBytes (BitVec.ofNat 8 n) 0 0 = BitVec.ofNat 32 n :=
  detailBytes_seq n h 0

theorem State.allocate_of_cons {s : State} {l : LineIdx} {ls : List LineIdx} (h : s.store.freeList = l :: ls)
    (mask : BitVec 8) (data : List Word) :
    s.allocate mask data =
      some (l, { s.freeLowTest ls.length with store := s.store.afterAllocation l ls mask data }) := by
  have hst (st : LineStore) :
      (st.fill l mask data).setLine l { (st.fill l mask data).lines[l] with refCount := 1 } =
        st.setLine l { st.lines[l] with words := filledWords (patchWord mask data), refCount := 1 } := by
    simp [LineStore.fill, LineStore.setLine]
  unfold State.allocate State.freeLowTest LineStore.afterAllocation
  rw [h]
  dsimp only
  rw [hst]
  split
  next hlow =>
    have := s.store.threshold.isLt
    rw [detailBytes_free (by omega)]
    rfl
  next => rfl

@[simp] theorem State.freeLowTest_store (s : State) (n : Nat) : (s.freeLowTest n).store = s.store := by
  unfold State.freeLowTest
  split <;> rfl

@[simp] theorem State.freeLowTest_tables (s : State) (n : Nat) : (s.freeLowTest n).tables = s.tables := by
  unfold State.freeLowTest
  split <;> rfl

@[simp] theorem State.freeLowTest_roles (s : State) (n : Nat) : (s.freeLowTest n).roles = s.roles := by
  unfold State.freeLowTest
  split <;> rfl

theorem State.freeLowTest_taken (s : State) (n : Nat) (rest : List QueuedCommand) :
    (s.taken rest).freeLowTest n = (s.freeLowTest n).taken rest := by
  unfold State.freeLowTest
  rw [State.taken_store]
  by_cases h : s.store.threshold.toNat ≤ n + 1 ∧ n < s.store.threshold.toNat
  · rw [if_pos h, if_pos h]
    rfl
  · rw [if_neg h, if_neg h]

/-! ### ADD_ENTRY and MODIFY_ENTRY: the tests in their order (R44, R45, R46) -/

section
variable {s : State} {tag : Byte} {p : List Byte} {rest : List QueuedCommand}

theorem exec_addEntry_eq_ended {t : State} {r : ResultCode} {q : List Byte} (h : s.offers 0x22 tag p rest)
    (hb : (s.taken rest).runAddEntry p = (t.taken rest, r, q)) : exec .addEntry s = .next (t.ended rest tag r q) :=
  exec_eq_ended rfl h rfl hb

theorem exec_modifyEntry_eq_ended {t : State} {r : ResultCode} {q : List Byte} (h : s.offers 0x23 tag p rest)
    (hb : (s.taken rest).runModifyEntry p = (t.taken rest, r, q)) :
    exec .modifyEntry s = .next (t.ended rest tag r q) :=
  exec_eq_ended rfl h rfl hb

theorem State.runAddEntry_of_malformed (hs : s.scu.state = .opened) (hp : parseRecord p = none) :
    s.runAddEntry p = (s, .badArgument, []) := by
  simp [State.runAddEntry, hs, hp]

theorem State.runModifyEntry_of_malformed (hs : s.scu.state = .opened) (hp : parseRecord p = none) :
    s.runModifyEntry p = (s, .badArgument, []) := by
  simp [State.runModifyEntry, hs, hp]

variable {r : EntryRecord} {i : Slot}

theorem State.runAddEntry_of_present (hs : s.scu.state = .opened) (hp : parseRecord p = some r)
    (hfind : (s.table .staged).find r.line ≠ none) : s.runAddEntry p = (s, .duplicate, []) := by
  simp [State.runAddEntry, hs, hp, Option.isSome_iff_ne_none.mpr hfind]

theorem State.runAddEntry_of_full (hs : s.scu.state = .opened) (hp : parseRecord p = some r)
    (hfind : (s.table .staged).find r.line = none) (hfull : (s.table .staged).lowestFree = none) :
    s.runAddEntry p = (s, .tableFull, []) := by
  simp [State.runAddEntry, hs, hp, hfind, hfull]

theorem State.runModifyEntry_of_absent (hs : s.scu.state = .opened) (hp : parseRecord p = some r)
    (hfind : (s.table .staged).find r.line = none) : s.runModifyEntry p = (s, .notFound, []) := by
  simp [State.runModifyEntry, hs, hp, hfind]

/-- The new entry of a record whose tests have passed, in a free slot. -/
def State.addRecord (s : State) (i : Slot) (r : EntryRecord) : Reply :=
  match r.body with
  | .substitute mask data => s.putAllocated i r mask data id
  | _ => s.putEntry i (r.toEntry 0)

theorem State.runAddEntry_of_free (hs : s.scu.state = .opened) (hp : parseRecord p = some r)
    (hfind : (s.table .staged).find r.line = none) (hfree : (s.table .staged).lowestFree = some i) :
    s.runAddEntry p = s.addRecord i r := by
  simp only [State.runAddEntry, hs, hp, hfind, hfree, if_true, Option.isSome_none, Bool.false_eq_true, if_false]
  rfl

theorem State.runModifyEntry_of_slot {old : Entry} (hs : s.scu.state = .opened) (hp : parseRecord p = some r)
    (hkeyed : (s.table .staged).keyed) (hi : (s.table .staged).slots[i] = some old) (hline : old.line = r.line) :
    s.runModifyEntry p = s.replaceEntry i old r := by
  simp only [State.runModifyEntry, hs, hp, ← hline, hkeyed.find_eq_some hi, hi, if_true]

end

theorem Table.lowestFree_eq_none {t : Table} (h : ∀ j : Slot, t.slots[j] ≠ none) : t.lowestFree = none := by
  refine Option.eq_none_iff_forall_ne_some.mpr fun i hi => ?_
  obtain ⟨hnone, -⟩ := Table.lowestFree_eq_some_iff.mp hi
  exact h i hnone

/-- Settles O17: the refusals in the order of the tests. -/
theorem addAndModifyCheckInOrder : Obligations.AddAndModifyCheckInOrder := by
  refine ⟨fun s tag p rest hs hp => ?_, fun s tag r rest hs hwf => ⟨fun hoff hdup => ?_, fun hoff hfull => ?_,
    fun hoff habsent => ?_⟩⟩
  · have hnone := parseRecord_eq_none hp
    exact ⟨fun hoff => exec_addEntry_eq_ended hoff (State.runAddEntry_of_malformed (s := s.taken rest) hs hnone),
      fun hoff => exec_modifyEntry_eq_ended hoff (State.runModifyEntry_of_malformed (s := s.taken rest) hs hnone)⟩
  · obtain ⟨j, e, hj, hline⟩ := hdup
    have hfind : (s.table .staged).find r.line ≠ none := fun h => Table.find_eq_none_iff.mp h j e hj hline
    exact exec_addEntry_eq_ended hoff
      (State.runAddEntry_of_present (s := s.taken rest) hs (parseRecord_bytes hwf) hfind)
  · have hfind : (s.table .staged).find r.line = none := by
      refine Table.find_eq_none_iff.mpr fun i e hi => ?_
      obtain ⟨f, hf, hne⟩ := hfull i
      exact Option.some.inj (hf.symm.trans hi) ▸ hne
    have hnone : (s.table .staged).lowestFree = none := Table.lowestFree_eq_none fun j => by
      obtain ⟨f, hf, -⟩ := hfull j
      rw [hf]
      exact nofun
    exact exec_addEntry_eq_ended hoff
      (State.runAddEntry_of_full (s := s.taken rest) hs (parseRecord_bytes hwf) hfind hnone)
  · exact exec_modifyEntry_eq_ended hoff (State.runModifyEntry_of_absent (s := s.taken rest) hs (parseRecord_bytes hwf)
      (Table.find_eq_none_iff.mpr habsent))

/-! ### The entry of a record goes to its slot (R32, R45, R46) -/

/-- The staged table with an entry in a slot. -/
def State.withEntry (s : State) (i : Slot) (e : Entry) : State :=
  s.setTable .staged ((s.table .staged).setSlot i (some e))

theorem State.putEntry_of_line {s : State} {i : Slot} {e : Entry} {l : LineIdx} (h : e.storeLine = some l) :
    s.putEntry i e = (s.withEntry i e, .ok, [BitVec.ofNat 8 i.val, BitVec.ofNat 8 l.val]) := by
  unfold State.putEntry
  rw [h]
  rfl

theorem State.putEntry_of_none {s : State} {i : Slot} {e : Entry} (h : e.storeLine = none) :
    s.putEntry i e = (s.withEntry i e, .ok, [BitVec.ofNat 8 i.val, 0]) := by
  unfold State.putEntry
  rw [h]
  rfl

theorem EntryRecord.toEntry_storeLine_of {r : EntryRecord} {mask : BitVec 8} {data : List Word}
    (h : r.body = .substitute mask data) (l : LineIdx) : (r.toEntry l).storeLine = some l := by
  simp only [EntryRecord.toEntry, Entry.storeLine, h]

/-- The record names no line. -/
def EntryRecord.lineless (r : EntryRecord) : Prop := ∀ mask data, r.body ≠ .substitute mask data

/-- The entry of a record without a line is the same whatever line is offered. -/
theorem EntryRecord.lineless.toEntry_eq {r : EntryRecord} (h : r.lineless) (l m : LineIdx) : r.toEntry l = r.toEntry m := by
  unfold EntryRecord.toEntry
  cases hb : r.body with
  | substitute mask data => exact absurd hb (h mask data)
  | redirect ce target => rfl
  | watch threshold dir => rfl

theorem EntryRecord.lineless.storeLine {r : EntryRecord} (h : r.lineless) (l : LineIdx) :
    (r.toEntry l).storeLine = none := by
  unfold EntryRecord.toEntry Entry.storeLine
  cases hb : r.body with
  | substitute mask data => exact absurd hb (h mask data)
  | redirect ce target => rfl
  | watch threshold dir => rfl

section
variable {s : State} {i : Slot} {r : EntryRecord} {mask : BitVec 8} {data : List Word}

theorem State.putAllocated_of_nil (h : s.store.freeList = []) (after : State → State) :
    s.putAllocated i r mask data after = (s, .noLine, []) := by
  simp only [State.putAllocated, State.allocate_of_nil h, State.refuse_eq]

/-- A freshly allocated line goes to the entry of the record. -/
theorem State.putAllocated_of_cons {l : LineIdx} {ls : List LineIdx} (h : s.store.freeList = l :: ls)
    (hb : r.body = .substitute mask data) (after : State → State) :
    s.putAllocated i r mask data after =
      ((after { s.freeLowTest ls.length with store := s.store.afterAllocation l ls mask data }).withEntry i (r.toEntry l),
        .ok, [BitVec.ofNat 8 i.val, BitVec.ofNat 8 l.val]) := by
  simp only [State.putAllocated, State.allocate_of_cons h, State.putEntry_of_line (EntryRecord.toEntry_storeLine_of hb l)]

theorem State.addRecord_of_substitute (hb : r.body = .substitute mask data) :
    s.addRecord i r = s.putAllocated i r mask data id := by
  unfold State.addRecord
  rw [hb]

theorem State.addRecord_of_lineless (hb : r.lineless) (l : LineIdx) :
    s.addRecord i r = (s.withEntry i (r.toEntry l), .ok, [BitVec.ofNat 8 i.val, 0]) := by
  have hput : s.addRecord i r = s.putEntry i (r.toEntry 0) := by
    unfold State.addRecord
    cases hbody : r.body with
    | substitute mask data => exact absurd hbody (hb mask data)
    | redirect ce target => rfl
    | watch threshold dir => rfl
  rw [hput, State.putEntry_of_none (hb.storeLine 0), hb.toEntry_eq 0 l]

/-- The state after an allocation for a new entry, as the executor finds and as the statements have it. -/
theorem State.withEntry_allocated (n : Nat) (st : LineStore) (e : Entry) (rest : List QueuedCommand) :
    State.withEntry { (s.taken rest).freeLowTest n with store := st } i e =
      (State.setTable { s.freeLowTest n with store := st } .staged ((s.table .staged).setSlot i (some e))).taken rest := by
  have htable : State.table { s.freeLowTest n with store := st } .staged = s.table .staged := by
    simp only [State.table, State.freeLowTest_tables, State.freeLowTest_roles]
  rw [State.freeLowTest_taken, ← htable]
  rfl

end

section
variable {s : State} {tag : Byte} {rest : List QueuedCommand} {r : EntryRecord} {i : Slot}

/-- ADD_ENTRY whose tests have passed places the record. -/
theorem exec_addEntry_eq_ended_of_free {t : State} {c : ResultCode} {q : List Byte} (hoff : s.offers 0x22 tag r.bytes rest)
    (hs : s.scu.state = .opened) (hwf : r.wellFormed = true)
    (habsent : ∀ (j : Slot) (e : Entry), (s.table .staged).slots[j] = some e → e.line ≠ r.line)
    (hi : (s.table .staged).slots[i] = none) (hlow : ∀ j : Slot, j < i → (s.table .staged).slots[j] ≠ none)
    (h : (s.taken rest).addRecord i r = (t.taken rest, c, q)) : exec .addEntry s = .next (t.ended rest tag c q) :=
  exec_addEntry_eq_ended hoff ((State.runAddEntry_of_free (s := s.taken rest) hs (parseRecord_bytes hwf)
    (Table.find_eq_none_iff.mpr habsent) (Table.lowestFree_eq_some_iff.mpr ⟨hi, hlow⟩)).trans h)

end

/-- Settles O16: the entry by kind, the line of a SUBSTITUTE by the free list. -/
theorem addEntryCreatesEntry : Obligations.AddEntryCreatesEntry := by
  intro s tag rest r i hoff hs hwf habsent hi hlow
  have hexec {t : State} {c : ResultCode} {q : List Byte} (h : (s.taken rest).addRecord i r = (t.taken rest, c, q)) :
      exec .addEntry s = .next (t.ended rest tag c q) :=
    exec_addEntry_eq_ended_of_free hoff hs hwf habsent hi hlow h
  cases hb : r.body with
  | substitute mask data =>
    have hentry (l : LineIdx) : r.toEntry l =
        { line := r.line, body := .substitute mask l, origin := r.origin, reportFirstHit := r.report, hitCount := 0 } := by
      simp only [EntryRecord.toEntry, hb]
    have hrec := State.addRecord_of_substitute (s := s.taken rest) (i := i) hb
    refine ⟨fun hnil => hexec (hrec.trans (State.putAllocated_of_nil (s := s.taken rest) hnil id)), fun l ls hcons =>
      ⟨_, s.store.allocated_afterAllocation l ls mask data, hexec (hrec.trans ?_)⟩⟩
    rw [State.putAllocated_of_cons (s := s.taken rest) hcons hb, ← hentry l]
    exact congrArg (·, _) (State.withEntry_allocated _ _ _ _)
  | redirect ce target =>
    have hless : r.lineless := fun _ _ h => absurd (hb.symm.trans h) nofun
    have hentry : r.toEntry 0 =
        { line := r.line, body := .redirect ce target, origin := r.origin, reportFirstHit := r.report, hitCount := 0 } := by
      simp only [EntryRecord.toEntry, hb]
    have hadd := hexec (t := s.withEntry i (r.toEntry 0)) (State.addRecord_of_lineless (s := s.taken rest) hless 0)
    rw [State.withEntry, hentry] at hadd
    exact hadd
  | watch threshold dir =>
    have hless : r.lineless := fun _ _ h => absurd (hb.symm.trans h) nofun
    have hentry : r.toEntry 0 =
        { line := r.line, body := .watch threshold dir, origin := r.origin, reportFirstHit := r.report, hitCount := 0 } := by
      simp only [EntryRecord.toEntry, hb]
    have hadd := hexec (t := s.withEntry i (r.toEntry 0)) (State.addRecord_of_lineless (s := s.taken rest) hless 0)
    rw [State.withEntry, hentry] at hadd
    exact hadd

/-! ### MODIFY_ENTRY by old kind, new kind and reference count (R32, R33) -/

section
variable {s : State} {i : Slot} {old : Entry} {r : EntryRecord} {mask : BitVec 8} {data : List Word} {l : LineIdx}

theorem State.replaceEntry_fill (hold : old.storeLine = some l) (hb : r.body = .substitute mask data)
    (hone : s.store.lines[l].refCount = 1) :
    s.replaceEntry i old r =
      (State.withEntry { s with store := s.store.fill l mask data } i (r.toEntry l), .ok,
        [BitVec.ofNat 8 i.val, BitVec.ofNat 8 l.val]) := by
  unfold State.replaceEntry
  simp only [hold, hb]
  rw [if_pos hone, State.putEntry_of_line (EntryRecord.toEntry_storeLine_of hb l)]

theorem State.replaceEntry_allocate (hold : old.storeLine = some l) (hb : r.body = .substitute mask data)
    (hne : s.store.lines[l].refCount ≠ 1) :
    s.replaceEntry i old r = s.putAllocated i r mask data (fun s1 => s1.release l) := by
  unfold State.replaceEntry
  simp only [hold, hb]
  rw [if_neg hne]

theorem State.replaceEntry_fresh (hold : old.storeLine = none) (hb : r.body = .substitute mask data) :
    s.replaceEntry i old r = s.putAllocated i r mask data id := by
  unfold State.replaceEntry
  simp only [hold, hb]

theorem State.replaceEntry_release (hold : old.storeLine = some l) (hb : r.lineless) (m : LineIdx) :
    s.replaceEntry i old r = ((s.release l).withEntry i (r.toEntry m), .ok, [BitVec.ofNat 8 i.val, 0]) := by
  have hput : s.replaceEntry i old r = (s.release l).putEntry i (r.toEntry 0) := by
    unfold State.replaceEntry
    cases hbody : r.body with
    | substitute mask data => exact absurd hbody (hb mask data)
    | redirect ce target => simp only [hold]
    | watch threshold dir => simp only [hold]
  rw [hput, State.putEntry_of_none (hb.storeLine 0), hb.toEntry_eq 0 m]

theorem State.replaceEntry_lineless (hold : old.storeLine = none) (hb : r.lineless) (m : LineIdx) :
    s.replaceEntry i old r = (s.withEntry i (r.toEntry m), .ok, [BitVec.ofNat 8 i.val, 0]) := by
  have hput : s.replaceEntry i old r = s.putEntry i (r.toEntry 0) := by
    unfold State.replaceEntry
    cases hbody : r.body with
    | substitute mask data => exact absurd hbody (hb mask data)
    | redirect ce target => simp only [hold]
    | watch threshold dir => simp only [hold]
  rw [hput, State.putEntry_of_none (hb.storeLine 0), hb.toEntry_eq 0 m]

end

/-- A line that is not free is not the one that an allocation takes. -/
theorem State.accounted.ne_free {s : State} (h : s.accounted) {l n : LineIdx} {ls : List LineIdx}
    (hl : 0 < s.store.lines[l].refCount) (hcons : s.store.freeList = n :: ls) : l ≠ n := by
  obtain ⟨-, -, -, -, hfree, -⟩ := h
  rintro rfl
  have hzero := ((hfree l).mp (hcons ▸ List.mem_cons_self)).1
  omega

/-- Settles O18: by the old entry's line, the record's kind, and the count of the line. -/
theorem modifyEntryReplacesEntry : Obligations.ModifyEntryReplacesEntry := by
  intro s tag rest r i old hoff hs hwf hkeyed hacc hi hline
  have hexec {t : State} {c : ResultCode} {q : List Byte}
      (h : (s.taken rest).replaceEntry i old r = (t.taken rest, c, q)) :
      exec .modifyEntry s = .next (t.ended rest tag c q) :=
    exec_modifyEntry_eq_ended hoff
      ((State.runModifyEntry_of_slot (s := s.taken rest) hs (parseRecord_bytes hwf) hkeyed hi hline).trans h)
  have hless : ∀ {l : LineIdx}, r.lineless → old.storeLine = some l → ∃ st : LineStore, s.store.released st l ∧
      exec .modifyEntry s =
        .next ((State.setTable { s with store := st } .staged ((s.table .staged).setSlot i (some (r.toEntry l)))).ended
          rest tag .ok [BitVec.ofNat 8 i.val, 0]) := fun {l} hb hold =>
    ⟨s.store.release l, LineStore.released_release (hacc.refCount_pos hi hold),
      hexec (State.replaceEntry_release (s := s.taken rest) hold hb l)⟩
  cases hold : old.storeLine with
  | some l =>
    have hpos := hacc.refCount_pos hi hold
    cases hb : r.body with
    | substitute mask data =>
      have hfill : (s.store.fill l mask data).lines[l] =
          { s.store.lines[l] with words := filledWords (patchWord mask data) } := LineStore.setLine_self _ l _
      refine ⟨fun hone => ⟨s.store.fill l mask data, rfl, rfl, rfl, ?_, ?_, StoreLine.filledAs_of_words ?_,
        fun m hm => LineStore.setLine_ne _ l m _ hm,
        hexec (State.replaceEntry_fill (s := s.taken rest) hold hb hone)⟩, fun htwo => ?_⟩
      · exact (congrArg StoreLine.refCount hfill).trans hone
      · rw [hfill]
      · exact congrArg StoreLine.words hfill
      · have hrec := State.replaceEntry_allocate (s := s.taken rest) (i := i) hold hb
          (fun h : s.store.lines[l].refCount = 1 => by omega)
        refine ⟨fun hnil => hexec (hrec.trans (State.putAllocated_of_nil (s := s.taken rest) hnil _)),
          fun n ls hcons => ⟨_, (s.store.afterAllocation n ls mask data).release l,
            s.store.allocated_afterAllocation n ls mask data, LineStore.released_release ?_, hexec (hrec.trans ?_)⟩⟩
        · have hkeep := LineStore.setLine_ne { s.store with freeList := ls } n l
            { s.store.lines[n] with words := filledWords (patchWord mask data), refCount := 1 } (hacc.ne_free hpos hcons)
          exact hpos.trans_eq (congrArg StoreLine.refCount hkeep).symm
        · rw [State.putAllocated_of_cons (s := s.taken rest) hcons hb]
          exact congrArg (·, _) (State.withEntry_allocated ls.length
            ((s.store.afterAllocation n ls mask data).release l) (r.toEntry n) rest)
    | redirect ce target => exact hless (fun _ _ h => absurd (hb.symm.trans h) nofun) hold
    | watch threshold dir => exact hless (fun _ _ h => absurd (hb.symm.trans h) nofun) hold
  | none =>
    cases hb : r.body with
    | substitute mask data =>
      have hrec := State.replaceEntry_fresh (s := s.taken rest) (i := i) hold hb
      refine ⟨fun hnil => hexec (hrec.trans (State.putAllocated_of_nil (s := s.taken rest) hnil id)), fun n ls hcons =>
        ⟨_, s.store.allocated_afterAllocation n ls mask data, hexec (hrec.trans ?_)⟩⟩
      rw [State.putAllocated_of_cons (s := s.taken rest) hcons hb]
      exact congrArg (·, _) (State.withEntry_allocated _ _ _ _)
    | redirect ce target =>
      exact fun l => hexec (State.replaceEntry_lineless (s := s.taken rest) hold
        (fun _ _ h => absurd (hb.symm.trans h) nofun) l)
    | watch threshold dir =>
      exact fun l => hexec (State.replaceEntry_lineless (s := s.taken rest) hold
        (fun _ _ h => absurd (hb.symm.trans h) nofun) l)

/-! ### DISCARD_SET (R56) -/

/-- Loader and verifier give up their accesses: their waiting requests go, and an access of theirs runs on for no one. -/
theorem MemPort.giveUp_both (p : MemPort) :
    (p.giveUp .loader).giveUp .verifier =
      { p with
        loader := none, verifier := none
        access := p.access.map fun a => if a.who = .host then a else { a with givenUp := true } } := by
  have haccess : (p.access.map fun a : Access => if a.who = .loader then { a with givenUp := true } else a).map
        (fun a => if a.who = .verifier then { a with givenUp := true } else a) =
      p.access.map fun a => if a.who = .host then a else { a with givenUp := true } := by
    rw [Option.map_map]
    refine congrArg (p.access.map ·) (funext fun a => ?_)
    cases hw : a.who <;> simp [hw]
  exact congrArg (fun x => { p with loader := none, verifier := none, access := x }) haccess

/-- The staged set may be discarded: no pending commit, and no start-up load that owns it (R40). -/
theorem State.stagedAccepts_discardSet {s : State} :
    s.stagedAccepts .discardSet = some true ↔ ¬ (s.scu.state = .commitPending ∨ s.startUpOwnsSet = true) := by
  simp only [State.stagedAccepts, State.startUpOwnsSet, Option.some.injEq]
  generalize (s.scu.state == .loading && s.loader.kind == .startUp) = loading
  generalize (s.scu.state == .verifying && s.scu.verifier.any fun v => v.starter == .startUpLoad) = verifying
  cases loading <;> cases verifying <;> simp

theorem State.runDiscardSet_of_empty {s : State} (h : s.scu.state = .empty) (p : List Byte) :
    s.runDiscardSet p = (s, .ok, [0]) := if_pos h

theorem State.runDiscardSet_of_refused {s : State} (h : s.scu.state ≠ .empty)
    (hr : s.scu.state = .commitPending ∨ s.startUpOwnsSet = true) (p : List Byte) :
    s.runDiscardSet p = (s, .busyState, []) := (if_neg h).trans (if_pos hr)

theorem State.runDiscardSet_of_accepted {s : State} (h : s.scu.state ≠ .empty)
    (ha : s.stagedAccepts .discardSet = some true) (p : List Byte) :
    s.runDiscardSet p = (s.discard, .ok, [BitVec.ofNat 8 (s.table .staged).count]) :=
  (if_neg h).trans (if_neg (State.stagedAccepts_discardSet.mp ha))

/-- The discard of a staged set, in the words of the statements. -/
theorem State.discard_eq (s : State) :
    s.discard = State.setTable
      { s with
        store := s.store.releaseTable (s.table .staged)
        scu := { s.scu with state := .empty, verifier := none, computedCrc := 0 }
        loader := if s.loader.kind = .command then { s.loader with state := .idle } else s.loader
        port := { s.port with
          loader := none, verifier := none
          access := s.port.access.map fun a => if a.who = .host then a else { a with givenUp := true } } }
      .staged Table.empty := by
  unfold State.discard
  rw [MemPort.giveUp_both]
  rfl

/-- Settles O22: by the tests in order; the accounting gives the released store. -/
theorem discardSetReleasesStagedTable : Obligations.DiscardSetReleasesStagedTable := by
  refine fun s tag rest hoff => ⟨fun h => ?_, fun h ha hacc => ?_⟩
  · exact exec_eq_ended rfl hoff rfl (State.runDiscardSet_of_empty (s := s.taken rest) h [])
  · refine ⟨_, hacc.tableReleased .staged fun _ => rfl, ?_⟩
    rw [← s.discard_eq]
    exact exec_eq_ended rfl hoff rfl (State.runDiscardSet_of_accepted (s := s.taken rest) h ha [])

/-! ### The acceptance table (R40) -/

theorem State.putAllocated_result (s : State) (i : Slot) (r : EntryRecord) (mask : BitVec 8) (data : List Word)
    (after : State → State) : (s.putAllocated i r mask data after).2.1 ≠ .busyState := by
  unfold State.putAllocated
  split
  · exact nofun
  · exact nofun

theorem State.addRecord_result (s : State) (i : Slot) (r : EntryRecord) : (s.addRecord i r).2.1 ≠ .busyState := by
  unfold State.addRecord
  split
  · exact s.putAllocated_result i r _ _ id
  · exact nofun

theorem State.replaceEntry_result (s : State) (i : Slot) (old : Entry) (r : EntryRecord) :
    (s.replaceEntry i old r).2.1 ≠ .busyState := by
  unfold State.replaceEntry
  split
  · split
    · exact nofun
    · exact s.putAllocated_result i r _ _ _
  · exact nofun
  · exact s.putAllocated_result i r _ _ id
  · exact nofun

theorem State.runAddEntry_result {s : State} (h : s.scu.state = .opened) (p : List Byte) :
    (s.runAddEntry p).2.1 ≠ .busyState := by
  cases hp : parseRecord p with
  | none => rw [State.runAddEntry_of_malformed h hp]; exact nofun
  | some r =>
    cases hfind : (s.table .staged).find r.line with
    | some j => rw [State.runAddEntry_of_present h hp (by rw [hfind]; exact nofun)]; exact nofun
    | none =>
      cases hfree : (s.table .staged).lowestFree with
      | none => rw [State.runAddEntry_of_full h hp hfind hfree]; exact nofun
      | some i => rw [State.runAddEntry_of_free h hp hfind hfree]; exact s.addRecord_result i r

theorem State.runModifyEntry_result {s : State} (h : s.scu.state = .opened) (p : List Byte) :
    (s.runModifyEntry p).2.1 ≠ .busyState := by
  rw [State.runModifyEntry, if_pos h]
  split
  · exact nofun
  · split
    · exact nofun
    · split
      · exact nofun
      · exact s.replaceEntry_result _ _ _

theorem State.runRemoveEntry_result {s : State} (h : s.scu.state = .opened) (p : List Byte) :
    (s.runRemoveEntry p).2.1 ≠ .busyState := by
  rw [State.runRemoveEntry, if_pos h]
  split
  · exact nofun
  · split
    · exact nofun
    · split <;> exact nofun

theorem State.runSealSet_result {s : State} (h : s.scu.state = .opened) (p : List Byte) :
    (s.runSealSet p).2.1 ≠ .busyState := by
  rw [State.runSealSet, if_pos h]
  split <;> exact nofun

/-- Where the table refuses a staged-set command its rule answers BUSY_STATE and changes nothing. -/
theorem replyOf_of_refused {c : Instr} {s : State} (h : s.stagedAccepts c = some false) (p : List Byte) :
    replyOf c p s = (s, .busyState, []) := by
  cases c with
  | openSet => exact if_neg (by simpa [State.stagedAccepts] using h)
  | cloneActive => exact if_neg (by simpa [State.stagedAccepts] using h)
  | addEntry => exact if_neg (by simpa [State.stagedAccepts] using h)
  | modifyEntry => exact if_neg (by simpa [State.stagedAccepts] using h)
  | removeEntry => exact if_neg (by simpa [State.stagedAccepts] using h)
  | sealSet => exact if_neg (by simpa [State.stagedAccepts] using h)
  | unsealSet => exact if_neg (by simpa [State.stagedAccepts, and_assoc] using h)
  | verifySet us => exact if_neg (by simpa [State.stagedAccepts] using h)
  | discardSet =>
    have hrefused : s.scu.state = .commitPending ∨ s.startUpOwnsSet = true := by
      by_contra hn
      exact absurd (h.symm.trans (State.stagedAccepts_discardSet.mpr hn)) nofun
    have hne : s.scu.state ≠ .empty := by
      rintro he
      simp [State.startUpOwnsSet, he] at hrefused
    exact State.runDiscardSet_of_refused hne hrefused p
  | querySets => exact absurd h nofun
  | _ => exact absurd h nofun

/-- Where the table accepts a staged-set command its rule does not answer BUSY_STATE. -/
theorem replyOf_of_accepted {c : Instr} {s : State} (h : s.stagedAccepts c = some true) (p : List Byte) :
    (replyOf c p s).2.1 ≠ .busyState := by
  cases c with
  | openSet => rw [replyOf, State.runOpenSet, if_pos (by simpa [State.stagedAccepts] using h)]; exact nofun
  | cloneActive => rw [replyOf, State.runCloneActive, if_pos (by simpa [State.stagedAccepts] using h)]; exact nofun
  | addEntry => exact State.runAddEntry_result (by simpa [State.stagedAccepts] using h) p
  | modifyEntry => exact State.runModifyEntry_result (by simpa [State.stagedAccepts] using h) p
  | removeEntry => exact State.runRemoveEntry_result (by simpa [State.stagedAccepts] using h) p
  | sealSet => exact State.runSealSet_result (by simpa [State.stagedAccepts] using h) p
  | unsealSet =>
    rw [replyOf, State.runUnsealSet, if_pos (by simpa [State.stagedAccepts, or_assoc] using h)]
    exact nofun
  | verifySet us => rw [replyOf, State.runVerify, if_pos (by simpa [State.stagedAccepts] using h)]; exact nofun
  | discardSet =>
    by_cases he : s.scu.state = .empty
    · rw [replyOf, State.runDiscardSet_of_empty he]
      exact nofun
    · rw [replyOf, State.runDiscardSet_of_accepted he h]
      exact nofun
  | querySets => exact nofun
  | _ => exact absurd h nofun

/-- A staged-set command is one that answers at once and leaves the regions alone. -/
theorem State.stagedAccepts_rule {c : Instr} {s : State} {b : Bool} (h : s.stagedAccepts c = some b) :
    c ≠ .setRegion ∧ c ≠ .setBackground ∧
      ∀ q s, ownRule c q s =
        (replyOf c q.payload s).1.respond q.tag (replyOf c q.payload s).2.1 (replyOf c q.payload s).2.2 := by
  cases c with
  | openSet => exact ⟨nofun, nofun, fun _ _ => rfl⟩
  | cloneActive => exact ⟨nofun, nofun, fun _ _ => rfl⟩
  | addEntry => exact ⟨nofun, nofun, fun _ _ => rfl⟩
  | modifyEntry => exact ⟨nofun, nofun, fun _ _ => rfl⟩
  | removeEntry => exact ⟨nofun, nofun, fun _ _ => rfl⟩
  | sealSet => exact ⟨nofun, nofun, fun _ _ => rfl⟩
  | unsealSet => exact ⟨nofun, nofun, fun _ _ => rfl⟩
  | verifySet us => exact ⟨nofun, nofun, fun _ _ => rfl⟩
  | discardSet => exact ⟨nofun, nofun, fun _ _ => rfl⟩
  | querySets => exact ⟨nofun, nofun, fun _ _ => rfl⟩
  | _ => exact absurd h nofun

/-- Settles O23: the executor's test of the length, and the owning rules on both sides of the acceptance table. -/
theorem acceptanceTableOfStagedSet : Obligations.AcceptanceTableOfStagedSet := by
  intro c s code tag p rest hc hoff hcancel
  have hexec : exec c s = .next (s.runCommand code (ownRule c)) := by
    rw [exec_service hc, if_neg]
    rintro ⟨hcc, hdue⟩
    simp only [Bool.and_eq_true, Bool.not_eq_true'] at hdue
    exact absurd (hcancel hcc hdue.1) (by rw [hdue.2]; exact nofun)
  refine ⟨fun hp => ?_, fun hp => ⟨fun hr => ?_, fun ha => ?_⟩⟩
  · rw [hexec, State.runCommand_badLength _ hoff hp]
  · obtain ⟨-, -, hrule⟩ := State.stagedAccepts_rule hr
    rw [hexec, State.runCommand_offers _ hoff hp, hrule, replyOf_of_refused (s := s.taken rest) hr]
    rfl
  · obtain ⟨hregion, hbackground, hrule⟩ := State.stagedAccepts_rule ha
    refine ⟨_, _, (replyOf c p (s.taken rest)).2.2, by rw [hexec, State.runCommand_offers _ hoff hp, hrule], ?_,
      replyOf_of_accepted (s := s.taken rest) ha p⟩
    have hkeep : (replyOf c p (s.taken rest)).1.svp.responses = (s.taken rest).svp.responses :=
      congrArg ServicePort.responses (replyOf_offBus hregion hbackground (s.taken rest) p).svp
    exact congrArg (· ++ _) hkeep

end Sys2Proof.Machine
end

section
/-! PROOF. The commands that read and restore lines: READ_ENTRY and SCRUB_LINE (O42, O43). -/

namespace Sys2Proof.Machine

open Sys2Proof

set_option Elab.async false

/-! ### Bytes of flags and masks (R2, R21, R175) -/

theorem flagBits_getLsbD (bs : List Bool) {k : Nat} (hk : k < 8) : (flagBits bs).getLsbD k = bs.getD k false := by
  induction bs generalizing k with
  | nil => simp [flagBits]
  | cons b bs ih =>
    have hflag : (flagByte b).getLsbD k = (decide (k = 0) && b) := by
      cases b <;> cases k <;> simp [flagByte, BitVec.getLsbD_one]
    rw [flagBits, BitVec.getLsbD_or, BitVec.getLsbD_shiftLeft, hflag]
    cases k with
    | zero => simp
    | succ k =>
      have hlt : k < 8 := by omega
      simp [ih hlt, hk]

theorem mem_maskedIdxs {mask : BitVec 8} {i : WordIdx} : i ∈ maskedIdxs mask ↔ mask.getLsbD i.val = true := by
  have hall : ∀ i : WordIdx, i ∈ wordIdxs := by decide
  rw [maskedIdxs, List.mem_filter]
  exact and_iff_right (hall i)

theorem wordIdxs_getD (f : WordIdx → Bool) (k : WordIdx) : (wordIdxs.map f).getD k.val false = f k := by
  fin_cases k <;> rfl

/-- The word-check field has the bit of each tested word that fails (R21, R36). -/
theorem wordCheck_getLsbD (x : StoreLine) (idxs : List WordIdx) (k : WordIdx) :
    (wordCheck x idxs).getLsbD k.val = (idxs.contains k && !x.words[k].agrees) := by
  rw [wordCheck, flagBits_getLsbD _ k.isLt, wordIdxs_getD]

theorem wordCheck_masked (x : StoreLine) (mask : BitVec 8) (k : WordIdx) :
    (wordCheck x (maskedIdxs mask)).getLsbD k.val = (mask.getLsbD k.val && !x.words[k].agrees) := by
  have hcontains : (maskedIdxs mask).contains k = mask.getLsbD k.val := by
    rw [Bool.eq_iff_iff, List.contains_iff_mem, mem_maskedIdxs]
  rw [wordCheck_getLsbD, hcontains]

/-- Some word fails its test exactly when the word-check field is not 0. -/
theorem anyFails_iff (x : StoreLine) (idxs : List WordIdx) : x.anyFails idxs = true ↔ wordCheck x idxs ≠ 0 := by
  have hbit : wordCheck x idxs ≠ 0 ↔ ∃ k : WordIdx, (wordCheck x idxs).getLsbD k.val = true := by
    constructor
    · intro h
      by_contra hn
      refine h (BitVec.eq_of_getLsbD_eq fun i hi => ?_)
      rw [Bool.eq_false_iff.mpr (not_exists.mp hn ⟨i, hi⟩)]
      exact BitVec.getLsbD_zero.symm
    · rintro ⟨k, hk⟩ h
      rw [h] at hk
      exact absurd (hk.symm.trans BitVec.getLsbD_zero) nofun
  simp only [hbit, wordCheck_getLsbD, StoreLine.anyFails, List.any_eq_true, Bool.and_eq_true, List.contains_iff_mem]

/-- As many words as the mask has bits: those below the last, and the last. -/
theorem maskedIdxs_length (mask : BitVec 8) :
    (maskedIdxs mask).length = patchIndex mask 7 + if mask.getLsbD 7 then 1 else 0 := by
  have hsplit : wordIdxs = wordIdxs.take 7 ++ [7] := rfl
  have hrange : (wordIdxs.take 7).map Fin.val = List.range 7 := rfl
  have hlow : ((wordIdxs.take 7).filter fun j => mask.getLsbD j.val).length = patchIndex mask 7 := by
    show _ = ((List.range 7).filter _).length
    rw [← hrange, List.filter_map, List.length_map]
    rfl
  have hlast : ([7].filter fun j : WordIdx => mask.getLsbD j.val).length = if mask.getLsbD 7 then 1 else 0 := by
    cases h : mask.getLsbD 7 with
    | true => rw [List.filter_cons_of_pos (p := fun j : WordIdx => mask.getLsbD j.val) h]; rfl
    | false => rw [List.filter_cons_of_neg (p := fun j : WordIdx => mask.getLsbD j.val) (fun ht => Bool.false_ne_true (h.symm.trans ht))]; rfl
  rw [maskedIdxs, hsplit, List.filter_append, List.length_append, hlow, hlast]

/-- The words read of a line, by the number of masked words before them. -/
theorem StoreLine.masked_get (x : StoreLine) {mask : BitVec 8} {k : WordIdx} (hk : mask.getLsbD k.val = true) :
    (x.masked mask)[patchIndex mask k]? = some x.words[k].data := by
  rw [StoreLine.masked, List.getElem?_map, ← maskedIdxs_idxOf hk, List.getElem?_idxOf (mem_maskedIdxs.mpr hk)]
  rfl

/-! ### READ_ENTRY (R20, R21) -/

theorem slotArg_of_slot (i : Slot) : slotArg (BitVec.ofNat 8 i.val) = some i := by
  have hi : (BitVec.ofNat 8 i.val).toNat = i.val := by
    rw [BitVec.toNat_ofNat]
    omega
  have hlt : (BitVec.ofNat 8 i.val).toNat < 64 := by
    rw [hi]
    exact i.isLt
  rw [slotArg, dif_pos hlt]
  exact congrArg some (Fin.ext hi)

theorem readEntryArgs_of_slot (r : Role) (i : Slot) : readEntryArgs [r.code, BitVec.ofNat 8 i.val] = some (r, i) := by
  simp only [readEntryArgs, byteAt_cons_zero, byteAt_cons_succ, Role.ofCode_code, slotArg_of_slot]

theorem readEntryArgs_eq_none {p : List Byte} (h : 2 < (byteAt p 0).toNat ∨ 63 < (byteAt p 1).toNat) :
    readEntryArgs p = none := by
  have hnone : Role.ofCode (byteAt p 0) = none ∨ slotArg (byteAt p 1) = none := by
    refine h.imp (fun h0 => ?_) fun h1 => dif_neg (by omega)
    have hne (b : Byte) (hb : b.toNat ≤ 2) : byteAt p 0 ≠ b := fun he => by rw [he] at h0; omega
    rw [Role.ofCode, if_neg (hne 0 (by decide)), if_neg (hne 1 (by decide)), if_neg (hne 2 (by decide))]
  unfold readEntryArgs
  obtain h0 | h1 := hnone
  · rw [h0]
  · rw [h1]
    cases Role.ofCode (byteAt p 0) <;> rfl

/-- The bytes of an occupied slot before its record. -/
def State.readoutHead (s : State) (r : Role) (i : Slot) (e : Entry) : List Byte :=
  [r.code, BitVec.ofNat 8 i.val] ++ leBytes 2 (s.table r).generation.toNat ++ leBytes 2 e.hitCount.toNat

section
variable {s : State} {us : List Upset} {r : Role} {i : Slot}

theorem State.runReadEntry_of_free (hi : (s.table r).slots[i] = none) :
    s.runReadEntry us [r.code, BitVec.ofNat 8 i.val] =
      (s, .notFound, [r.code, BitVec.ofNat 8 i.val] ++ leBytes 2 (s.table r).generation.toNat ++
        [BitVec.ofNat 8 (s.table r).count]) := by
  simp only [State.runReadEntry, readEntryArgs_of_slot, hi]

theorem State.runReadEntry_of_occupied {e : Entry} (hi : (s.table r).slots[i] = some e) :
    s.runReadEntry us [r.code, BitVec.ofNat 8 i.val] = (s.upset us).readOccupied r i e := by
  simp only [State.runReadEntry, readEntryArgs_of_slot, hi]

theorem State.readOccupied_substitute {e : Entry} {mask : BitVec 8} {l : LineIdx} (hb : e.body = .substitute mask l) :
    s.readOccupied r i e =
      (s.testWords l (maskedIdxs mask), .ok,
        s.readoutHead r i e ++ [BitVec.ofNat 8 l.val, wordCheck s.store.lines[l] (maskedIdxs mask)] ++
          EntryRecord.bytes { line := e.line, body := .substitute mask (s.store.lines[l].masked mask),
                              origin := e.origin, report := e.reportFirstHit }) := by
  unfold State.readOccupied State.entryBytes Entry.toRecord State.readoutHead
  simp only [hb]

/-- An entry without a line reads out with zeros in the place of the line. -/
theorem State.readOccupied_lineless {e : Entry} {b : RecordBody} (hb : ∀ mask l, e.body ≠ .substitute mask l)
    (hrec : ∀ words, (e.toRecord words).body = b) :
    s.readOccupied r i e =
      (s, .ok, s.readoutHead r i e ++ [0, 0] ++
        EntryRecord.bytes { line := e.line, body := b, origin := e.origin, report := e.reportFirstHit }) := by
  have hentry (words : List Word) : e.toRecord words =
      { line := e.line, body := b, origin := e.origin, report := e.reportFirstHit } := by
    rw [← hrec words]
    rfl
  unfold State.readOccupied State.entryBytes State.readoutHead
  cases he : e.body with
  | substitute mask l => exact absurd he (hb mask l)
  | redirect ce target => simp only [hentry]
  | watch threshold dir => simp only [hentry]

theorem State.testWords_taken (s : State) (l : LineIdx) (idxs : List WordIdx) (rest : List QueuedCommand) :
    (s.taken rest).testWords l idxs = (s.testWords l idxs).taken rest := by
  unfold State.testWords
  rw [State.taken_store, State.lineFailed_taken]
  cases s.store.lines[l].anyFails idxs <;> rfl

/-- The test of the masked words, by the word-check field. -/
theorem State.testWords_eq (s : State) (l : LineIdx) (idxs : List WordIdx) :
    s.testWords l idxs =
      if wordCheck s.store.lines[l] idxs ≠ 0 ∧ s.store.lines[l].bad = false then
        State.raise { s with store := s.store.setLine l { s.store.lines[l] with bad := true } } .lineFault
          (BitVec.ofNat 32 l.val)
      else s := by
  unfold State.testWords
  by_cases hc : wordCheck s.store.lines[l] idxs ≠ 0
  · rw [if_pos ((anyFails_iff _ idxs).mpr hc)]
    cases hb : s.store.lines[l].bad with
    | true => rw [State.lineFailed_of_bad hb, if_neg (fun h => absurd h.2 nofun)]
    | false => rw [State.lineFailed_of_good hb, if_pos ⟨hc, rfl⟩]
  · rw [if_neg (fun h => hc ((anyFails_iff _ idxs).mp h)), if_neg (fun h => hc h.1)]

end

theorem exec_readEntry_eq_ended {s t : State} {us : List Upset} {tag : Byte} {p : List Byte} {rest : List QueuedCommand}
    {r : ResultCode} {q : List Byte} (h : s.offers 0x11 tag p rest) (hp : p.length = 2)
    (hb : (s.taken rest).runReadEntry us p = (t.taken rest, r, q)) :
    exec (.readEntry us) s = .next (t.ended rest tag r q) :=
  exec_eq_ended rfl h (by rw [hp]; rfl) hb

/-- Settles O42: by the slot and the kind of its entry; the word-check field says whether the line is marked. -/
theorem readEntryReadsSlot : Obligations.ReadEntryReadsSlot := by
  refine ⟨fun s d us tag rest r i hd hoff => ⟨fun hi => ?free, fun e hi => ?occupied⟩,
    fun s us tag rest p hp hbad hoff => ?bad⟩
  case free => exact exec_readEntry_eq_ended hoff rfl (State.runReadEntry_of_free (s := s.taken rest) hi)
  case bad =>
    refine exec_readEntry_eq_ended hoff hp ?_
    simp only [State.runReadEntry, readEntryArgs_eq_none hbad, State.refuse_eq]
  case occupied =>
    subst hd
    have hrun := State.runReadEntry_of_occupied (s := s.taken rest) (us := us) hi
    have hlineless {b : RecordBody} (hb : ∀ mask l, e.body ≠ .substitute mask l)
        (hrec : ∀ words, (e.toRecord words).body = b) :=
      exec_readEntry_eq_ended (t := s.upset us) hoff rfl
        (hrun.trans (State.readOccupied_lineless (s := (s.upset us).taken rest) hb hrec))
    cases hb : e.body with
    | substitute mask l =>
      refine ⟨wordCheck (s.upset us).store.lines[l] (maskedIdxs mask), (s.upset us).store.lines[l].masked mask,
        wordCheck_masked _ mask, ?_, fun k hk => StoreLine.masked_get _ hk, ?_⟩
      · rw [StoreLine.masked, List.length_map, maskedIdxs_length]
      · refine exec_readEntry_eq_ended hoff rfl
          ((hrun.trans (State.readOccupied_substitute (s := (s.upset us).taken rest) hb)).trans ?_)
        rw [State.testWords_taken, State.testWords_eq]
        rfl
    | redirect ce target =>
      exact hlineless (fun _ _ h => absurd (hb.symm.trans h) nofun) fun words => by simp only [Entry.toRecord, hb]
    | watch threshold dir =>
      exact hlineless (fun _ _ h => absurd (hb.symm.trans h) nofun) fun words => by simp only [Entry.toRecord, hb]

/-! ### SCRUB_LINE (R36) -/

theorem lineIndexArg_of_gt {p : List Byte} (h : 255 < field p 0 2) : lineIndexArg p = none := dif_neg (by omega)

theorem lineIndexArg_of_eq {p : List Byte} {l : LineIdx} (h : field p 0 2 = l.val) : lineIndexArg p = some l := by
  have hlt : field p 0 2 < 256 := h ▸ l.isLt
  exact (dif_pos hlt).trans (congrArg some (Fin.ext h))

theorem exec_scrubLine_eq_ended {s t : State} {us : List Upset} {tag : Byte} {p : List Byte} {rest : List QueuedCommand}
    {r : ResultCode} {q : List Byte} (h : s.offers 0x15 tag p rest) (hp : p.length = 2)
    (hb : (s.taken rest).runScrubLine us p = (t.taken rest, r, q)) :
    exec (.scrubLine us) s = .next (t.ended rest tag r q) :=
  exec_eq_ended rfl h (by rw [hp]; rfl) hb

section
variable {s : State} {us : List Upset} {p : List Byte} {l : LineIdx}

theorem State.runScrubLine_of_gt (h : 255 < field p 0 2) : s.runScrubLine us p = (s, .badArgument, []) := by
  simp only [State.runScrubLine, lineIndexArg_of_gt h, State.refuse_eq]

theorem State.runScrubLine_of_unlisted (hp : field p 0 2 = l.val) (hl : l ∉ s.store.badList) :
    s.runScrubLine us p = (s, .notFound, []) := by
  have hc : ¬ s.store.badList.contains l = true := fun h => hl (List.contains_iff_mem.mp h)
  simp only [State.runScrubLine, lineIndexArg_of_eq hp, State.refuse_eq]
  rw [if_neg hc]

/-- A listed line is written with zeros and read back. -/
theorem State.runScrubLine_of_listed (hp : field p 0 2 = l.val) (hl : l ∈ s.store.badList) {st : LineStore}
    (hst : st = (s.store.zeroLine l).upset us) :
    s.runScrubLine us p =
      if st.lines[l].anyFails wordIdxs then
        ({ s with store := st }, .scrubFailed, st.scrubBytes l (wordCheck st.lines[l] wordIdxs))
      else ({ s with store := st.scrubbed l }, .ok, (st.scrubbed l).scrubBytes l 0) := by
  subst hst
  simp only [State.runScrubLine, lineIndexArg_of_eq hp]
  rw [if_pos (List.contains_iff_mem.mpr hl)]

end

theorem LineStore.setLine_get (st : LineStore) (l : LineIdx) (x : StoreLine) : (st.setLine l x).lines[l] = x :=
  LineStore.setLine_self st l x

theorem LineStore.zeroLine_self (st : LineStore) (l : LineIdx) :
    (st.zeroLine l).lines[l] = { st.lines[l] with words := filledWords fun _ => 0 } := LineStore.setLine_self st l _

theorem LineStore.zeroLine_ne (st : LineStore) {l m : LineIdx} (h : m ≠ l) :
    (st.zeroLine l).lines[m] = st.lines[m] := st.setLine_ne l m _ h

/-- A line of zeros passes its read-back. -/
theorem anyFails_zeroLine (st : LineStore) (l : LineIdx) : (st.zeroLine l).lines[l].anyFails wordIdxs = false := by
  rw [st.zeroLine_self]
  refine List.any_eq_false.mpr fun i _ => ?_
  rw [filledWords_get]
  exact nofun

theorem LineStore.scrubbed_self (st : LineStore) (l : LineIdx) :
    (st.scrubbed l).lines[l] = { st.lines[l] with bad := false } := LineStore.setLine_self st l _

theorem LineStore.scrubbed_ne (st : LineStore) {l m : LineIdx} (h : m ≠ l) :
    (st.scrubbed l).lines[m] = st.lines[m] := st.setLine_ne l m _ h

/-- With no line listed twice, a scrub takes its line off the bad-line list. -/
theorem LineStore.scrubbed_badList (st : LineStore) (l : LineIdx) (h : st.badList.Nodup) :
    (st.scrubbed l).badList = st.badList.erase l := (h.erase_eq_filter l).symm

/-- One disturbed word of a line. -/
theorem LineStore.upset_single (st : LineStore) (l : LineIdx) (k : WordIdx) (d : Word) (a : Bool) :
    st.upset [⟨l, k, d, a⟩] =
      st.setLine l { st.lines[l] with words := st.lines[l].words.set k.val ⟨d, a⟩ k.isLt } := rfl

/-- Which word of a line of zeros fails its test when one is disturbed. -/
theorem disturbed_agrees (st : LineStore) (l : LineIdx) (k i : WordIdx) (d : Word) :
    ((st.zeroLine l).upset [⟨l, k, d, false⟩]).lines[l].words[i].agrees = decide (i ≠ k) := by
  rw [LineStore.upset_single, LineStore.setLine_get]
  by_cases h : i = k
  · subst h
    simp
  · have hne : k.val ≠ i.val := fun he => h (Fin.ext he.symm)
    show ((st.zeroLine l).lines[l].words.set k.val ⟨d, false⟩ k.isLt)[i.val].agrees = decide (i ≠ k)
    rw [Vector.getElem_set_ne _ _ hne, decide_eq_true h, st.zeroLine_self]
    exact congrArg StoreWord.agrees (filledWords_get _ i)

theorem getLsbD_two_pow : ∀ k i : WordIdx, (BitVec.ofNat 8 (2 ^ k.val)).getLsbD i.val = decide (i = k) := by decide

theorem two_pow_ne_zero : ∀ k : WordIdx, BitVec.ofNat 8 (2 ^ k.val) ≠ 0 := by decide

/-- The word-check field of a line of zeros with one disturbed word. -/
theorem wordCheck_disturbed (st : LineStore) (l : LineIdx) (k : WordIdx) (d : Word) :
    wordCheck ((st.zeroLine l).upset [⟨l, k, d, false⟩]).lines[l] wordIdxs = BitVec.ofNat 8 (2 ^ k.val) := by
  refine BitVec.eq_of_getLsbD_eq fun i hi => ?_
  have hcontains : ∀ i : WordIdx, wordIdxs.contains i = true := by decide
  rw [wordCheck_getLsbD _ _ ⟨i, hi⟩, disturbed_agrees, hcontains, getLsbD_two_pow k ⟨i, hi⟩, Bool.true_and]
  simp

/-- Settles O43: the argument, the bad-line list, and the read-back of the zeros with and without a disturbed word. -/
theorem scrubLineRestoresLine : Obligations.ScrubLineRestoresLine := by
  refine fun s tag p rest hoff hp => ⟨fun h us => ?_, fun l hl => ⟨fun hout us => ?_, fun hin hnodup => ⟨?_, fun k d => ?_⟩⟩⟩
  · exact exec_scrubLine_eq_ended hoff hp (State.runScrubLine_of_gt (s := s.taken rest) h)
  · exact exec_scrubLine_eq_ended hoff hp (State.runScrubLine_of_unlisted (s := s.taken rest) hl hout)
  · have hpass := anyFails_zeroLine s.store l
    have hself : ((s.store.zeroLine l).scrubbed l).lines[l] =
        { s.store.lines[l] with words := filledWords fun _ => 0, bad := false } := by
      rw [LineStore.scrubbed_self, LineStore.zeroLine_self]
    have hbad : ((s.store.zeroLine l).scrubbed l).badList = s.store.badList.erase l :=
      LineStore.scrubbed_badList _ l hnodup
    have hrun := (State.runScrubLine_of_listed (s := s.taken rest) (us := []) hl hin rfl).trans
      (if_neg (by rw [Bool.not_eq_true]; exact hpass))
    have hbytes : ((s.store.zeroLine l).scrubbed l).scrubBytes l 0 =
        [BitVec.ofNat 8 l.val, 0] ++ leBytes 2 (s.store.freeList.length + 1) ++
          leBytes 2 (s.store.badList.length - 1) := by
      rw [LineStore.scrubBytes, hbad, List.length_erase_of_mem hin]
      simp [LineStore.scrubbed, LineStore.zeroLine]
    refine ⟨(s.store.zeroLine l).scrubbed l, fun k => ?_, by rw [hself], by rw [hself], fun m hm => ?_, rfl, rfl, hbad, ?_⟩
    · rw [hself]
      exact filledWords_get _ k
    · rw [LineStore.scrubbed_ne _ hm, LineStore.zeroLine_ne _ hm]
    · rw [← hbytes]
      exact exec_scrubLine_eq_ended hoff hp hrun
  · have hst := LineStore.upset_frame (s.store.zeroLine l) [⟨l, k, d, false⟩]
    have hcheck := wordCheck_disturbed s.store l k d
    have hfails : ((s.store.zeroLine l).upset [⟨l, k, d, false⟩]).lines[l].anyFails wordIdxs = true := by
      rw [anyFails_iff, hcheck]
      exact two_pow_ne_zero k
    have hrun := (State.runScrubLine_of_listed (s := s.taken rest) (us := [⟨l, k, d, false⟩]) hl hin rfl).trans
      (if_pos hfails)
    obtain ⟨hlines, hfree, hbad, hthreshold⟩ := hst
    have hself := s.store.zeroLine_self l
    refine ⟨(s.store.zeroLine l).upset [⟨l, k, d, false⟩], fun m hm => ?_, ?_, ?_, hthreshold, hfree, hbad, ?_⟩
    · rw [LineStore.upset_single, LineStore.setLine_ne _ _ _ _ hm, LineStore.zeroLine_ne _ hm]
    · rw [(hlines l).2, hself]
    · rw [(hlines l).1, hself]
    · have hbytes : ((s.store.zeroLine l).upset [⟨l, k, d, false⟩]).scrubBytes l
            (wordCheck ((s.store.zeroLine l).upset [⟨l, k, d, false⟩]).lines[l] wordIdxs) =
          [BitVec.ofNat 8 l.val, BitVec.ofNat 8 (2 ^ k.val)] ++ leBytes 2 s.store.freeList.length ++
            leBytes 2 s.store.badList.length := by
        rw [LineStore.scrubBytes, hcheck, hfree, hbad]
        rfl
      rw [← hbytes]
      exact exec_scrubLine_eq_ended hoff hp hrun

end Sys2Proof.Machine
end

section
/-! PROOF. The five status commands (O45). -/

namespace Sys2Proof.Machine

open Sys2Proof

set_option Elab.async false

/-! ### Fields of a payload -/

/-- A field whose bytes have been written with room for its value. -/
theorem field_eq_of_take {p : List Byte} {off n v : Nat} (h : (p.drop off).take n = leBytes n v) (hv : v < 256 ^ n) :
    field p off n = v := by
  rw [field, h, leNat_leBytes, Nat.mod_eq_of_lt hv]

theorem byteAt_append_left {p : List Byte} (q : List Byte) {off : Nat} (h : off < p.length) :
    byteAt (p ++ q) off = byteAt p off := by
  rw [byteAt, byteAt, List.getD_append _ _ _ _ h]

theorem toNat_ofNat_byte {n : Nat} (h : n < 256) : (BitVec.ofNat 8 n).toNat = n := by
  rw [BitVec.toNat_ofNat]
  omega

/-! ### QUERY_SETS (R57) -/

theorem Table.count_le (t : Table) : t.count ≤ 64 := by
  rw [t.count_eq_countP]
  exact List.countP_le_length.trans_eq (List.length_finRange (n := 64))

/-- The nine bytes of a role, wherever they stand. -/
theorem State.roleBytes_fields (s : State) (r : Role) (pre post p : List Byte) (off : Nat)
    (hp : p = pre ++ (s.roleBytes r ++ post)) (hoff : pre.length = off) :
    byteAt p off = (s.roles.letter r).code ∧ field p (off + 1) 2 = (s.table r).generation.toNat ∧
      field p (off + 3) 4 = (s.table r).expectedCrc.toNat ∧ byteAt p (off + 7) = (s.table r).result.code ∧
      (byteAt p (off + 8)).toNat = (s.table r).count := by
  subst hp hoff
  have hat (k : Nat) : byteAt (pre ++ (s.roleBytes r ++ post)) (pre.length + k) = byteAt (s.roleBytes r ++ post) k :=
    byteAt_append pre _ _ k rfl
  have hfield (k n : Nat) : field (pre ++ (s.roleBytes r ++ post)) (pre.length + k) n =
      field (s.roleBytes r ++ post) k n := field_append pre _ n _ k rfl
  refine ⟨hat 0, ?_, ?_, hat 7, ?_⟩
  · rw [hfield]
    exact field_eq_of_take rfl (s.table r).generation.isLt
  · rw [hfield]
    exact field_eq_of_take rfl (s.table r).expectedCrc.isLt
  · rw [hat]
    have := (s.table r).count_le
    exact toNat_ofNat_byte (by omega)

/-- The bytes of QUERY_SETS before those of the pending commit. -/
def State.setsHead (s : State) : List Byte :=
  s.roleBytes .active ++ (s.roleBytes .staged ++ (s.roleBytes .retained ++
    [s.scu.state.code, s.startedBy,
     (match s.scu.verifier with
      | none => 0
      | some v => BitVec.ofNat 8 v.passed),
     s.startPhase.code]))

theorem State.querySetsBytes_eq (s : State) :
    s.querySetsBytes = s.setsHead ++ (s.commitBytes ++ wordBytes s.scu.computedCrc) := by
  simp only [State.querySetsBytes, State.setsHead, List.append_assoc] <;> rfl

theorem State.setsHead_length (s : State) : s.setsHead.length = 31 := rfl

theorem State.commitBytes_length (s : State) : s.commitBytes.length = 9 := by
  unfold State.commitBytes
  cases s.scu.commit <;> rfl

/-- The bytes of QUERY_SETS from those of the pending commit on. -/
theorem State.querySetsBytes_tail (s : State) (k n : Nat) :
    field s.querySetsBytes (31 + k) n = field (s.commitBytes ++ wordBytes s.scu.computedCrc) k n ∧
      byteAt s.querySetsBytes (31 + k) = byteAt (s.commitBytes ++ wordBytes s.scu.computedCrc) k := by
  rw [s.querySetsBytes_eq]
  exact ⟨field_append _ _ n _ k rfl, byteAt_append _ _ _ k rfl⟩

theorem State.querySetsBytes_head (s : State) {k : Nat} (hk : k < 31) :
    byteAt s.querySetsBytes k = byteAt s.setsHead k := by
  rw [s.querySetsBytes_eq]
  exact byteAt_append_left _ (s.setsHead_length ▸ hk)

/-- The mode, window and timeout of the pending commit, or zeros (R57). -/
theorem State.querySetsBytes_commit (s : State) :
    (∀ pc, s.scu.commit = some pc → pc.args.gateLength < 65536 →
      byteAt s.querySetsBytes 31 = pc.args.mode.code ∧ field s.querySetsBytes 32 3 = pc.args.gateBase.toNat ∧
        field s.querySetsBytes 36 2 = pc.args.gateLength ∧ field s.querySetsBytes 38 2 = pc.args.timeout.toNat) ∧
    (s.scu.commit = none → field s.querySetsBytes 31 4 = 0 ∧ field s.querySetsBytes 36 4 = 0) ∧
    byteAt s.querySetsBytes 35 = 0 ∧ field s.querySetsBytes 40 4 = s.scu.computedCrc.toNat := by
  have hf (k n : Nat) := (s.querySetsBytes_tail k n).1
  have hb (k : Nat) := (s.querySetsBytes_tail k 0).2
  have hcrc : field s.querySetsBytes 40 4 = s.scu.computedCrc.toNat := by
    refine (hf 9 4).trans ((field_append s.commitBytes _ 4 9 0 (by rw [s.commitBytes_length])).trans ?_)
    exact field_eq_of_take rfl s.scu.computedCrc.isLt
  refine ⟨fun pc hpc hlen => ?_, fun hnone => ?_, ?_, hcrc⟩
  · have hbytes : s.commitBytes = pc.args.mode.code :: leBytes 3 pc.args.gateBase.toNat ++ [0] ++
        leBytes 2 pc.args.gateLength ++ leBytes 2 pc.args.timeout.toNat := by
      simp only [State.commitBytes, hpc]
    have hbase := pc.args.gateBase.isLt
    rw [hf 1 3, hf 5 2, hf 7 2, hb 0, hbytes]
    exact ⟨rfl, field_eq_of_take rfl (by omega), field_eq_of_take rfl hlen,
      field_eq_of_take rfl pc.args.timeout.isLt⟩
  · have hbytes : s.commitBytes = List.replicate 9 0 := by simp only [State.commitBytes, hnone]
    rw [hf 0 4, hf 5 4, hbytes]
    exact ⟨rfl, rfl⟩
  · rw [hb 4]
    cases hc : s.scu.commit with
    | none =>
      have hbytes : s.commitBytes = List.replicate 9 0 := by simp only [State.commitBytes, hc]
      rw [hbytes]
      rfl
    | some pc =>
      have hbytes : s.commitBytes = pc.args.mode.code :: leBytes 3 pc.args.gateBase.toNat ++ [0] ++
          leBytes 2 pc.args.gateLength ++ leBytes 2 pc.args.timeout.toNat := by
        simp only [State.commitBytes, hc]
      rw [hbytes]
      rfl

/-- What started the load or the verification in progress (R57). -/
theorem State.startedBy_cases (s : State) :
    (s.scu.state = .loading → s.startedBy = (match s.loader.kind with | .command => 2 | .startUp => 3)) ∧
    (∀ v, s.scu.state = .verifying → s.scu.verifier = some v → s.startedBy = v.starter.code) ∧
    (s.scu.state ≠ .loading → s.scu.state ≠ .verifying → s.startedBy = 0) := by
  refine ⟨fun h => ?_, fun v h hv => ?_, fun h1 h2 => ?_⟩
  · unfold State.startedBy
    rw [h]
    cases s.loader.kind <;> rfl
  · unfold State.startedBy
    simp only [h, hv]
  · unfold State.startedBy
    cases hs : s.scu.state with
    | loading => exact absurd hs h1
    | verifying => exact absurd hs h2
    | _ => rfl

/-! ### Masks with one bit per source (R159, R183) -/

/-- The mask of the first `k` sources. -/
def maskUpTo (g : Nat → Bool) (k : Nat) : Nat := (List.range k).foldl (fun m i => if g i then m + 2 ^ (i + 1) else m) 0

theorem maskUpTo_succ (g : Nat → Bool) (k : Nat) :
    maskUpTo g (k + 1) = if g k then maskUpTo g k + 2 ^ (k + 1) else maskUpTo g k := by
  rw [maskUpTo, List.range_succ, List.foldl_append]
  rfl

theorem maskUpTo_spec (g : Nat → Bool) (k : Nat) :
    maskUpTo g k < 2 ^ (k + 1) ∧ ∀ j < k, (maskUpTo g k).testBit (j + 1) = g j := by
  induction k with
  | zero => exact ⟨Nat.two_pow_pos 1, fun j hj => absurd hj (Nat.not_lt_zero j)⟩
  | succ k ih =>
    obtain ⟨hlt, hbits⟩ := ih
    rw [maskUpTo_succ]
    cases hk : g k with
    | false =>
      rw [if_neg Bool.false_ne_true]
      refine ⟨hlt.trans (Nat.pow_lt_pow_right (by decide) (by omega)), fun j hj => ?_⟩
      obtain hj | rfl := Nat.lt_succ_iff_lt_or_eq.mp hj
      · exact hbits j hj
      · rw [Nat.testBit_lt_two_pow hlt, hk]
    | true =>
      rw [if_pos rfl, Nat.add_comm]
      refine ⟨by rw [Nat.pow_succ 2 (k + 1)]; omega, fun j hj => ?_⟩
      obtain hj | rfl := Nat.lt_succ_iff_lt_or_eq.mp hj
      · rw [Nat.testBit_two_pow_add_gt (by omega), hbits j hj]
      · rw [Nat.testBit_two_pow_add_eq, Nat.testBit_lt_two_pow hlt, hk]
        rfl

theorem sourceMask_eq (f : Fin 14 → Bool) : sourceMask f = maskUpTo (fun i => if h : i < 14 then f ⟨i, h⟩ else false) 14 := by
  have hrange : List.range 14 = (List.finRange 14).map Fin.val := by decide
  rw [maskUpTo, hrange, List.foldl_map, sourceMask]
  refine congrArg (fun g => (List.finRange 14).foldl g 0) (funext fun m => funext fun i => ?_)
  rw [dif_pos i.isLt]

/-- Each source has its own bit of a mask. -/
theorem sourceMask_spec (f : Fin 14 → Bool) :
    sourceMask f < 65536 ∧ ∀ i : Fin 14, (sourceMask f).testBit (i.val + 1) = f i := by
  rw [sourceMask_eq]
  obtain ⟨hlt, hbits⟩ := maskUpTo_spec (fun i => if h : i < 14 then f ⟨i, h⟩ else false) 14
  exact ⟨hlt.trans (by decide), fun i => (hbits i.val i.isLt).trans (dif_pos i.isLt)⟩

/-! ### EVENT_STATUS (R159) -/

/-- The summary form of EVENT_STATUS, field by field. -/
theorem State.eventSummary_fields (s : State) (h : s.events.fits) :
    s.eventSummaryBytes.length = 23 ∧
    (∀ i : Fin 14,
      (field s.eventSummaryBytes 0 2).testBit (i.val + 1) = s.events.sources[i].enable ∧
      (field s.eventSummaryBytes 2 2).testBit (i.val + 1) = s.events.sources[i].pending ∧
      (field s.eventSummaryBytes 4 2).testBit (i.val + 1) = (s.events.sources[i].enable && s.events.sources[i].pending &&
        decide (s.events.inService.headD 0 < s.events.sources[i].level)) ∧
      (byteAt s.eventSummaryBytes (6 + i.val)).toNat = s.events.sources[i].level) ∧
    (∀ l : Nat, 1 ≤ l → l ≤ 4 → ((byteAt s.eventSummaryBytes 20).getLsbD l = true ↔ l ∈ s.events.inService)) ∧
    (byteAt s.eventSummaryBytes 21).toNat = s.events.inService.headD 0 ∧
    byteAt s.eventSummaryBytes 22 = flagByte s.alertLow := by
  have hhigh := EventUnit.fits.highest_eq h
  obtain ⟨hfixed, hprog, -, hlevels⟩ := h
  have hmask (off : Nat) (f : Fin 14 → Bool) (hoff : (s.eventSummaryBytes.drop off).take 2 = leBytes 2 (sourceMask f))
      (i : Fin 14) : (field s.eventSummaryBytes off 2).testBit (i.val + 1) = f i := by
    obtain ⟨hlt, hbits⟩ := sourceMask_spec f
    rw [field_eq_of_take hoff hlt, hbits]
  have hlevel (i : Fin 14) : s.events.sources[i].level ≤ 4 := by
    by_cases hi : i.val < 12
    · exact (hprog i hi).2.trans (by decide)
    · exact (hfixed i (by omega)).2.le
  have hbyte (i : Fin 14) : byteAt s.eventSummaryBytes (6 + i.val) = BitVec.ofNat 8 s.events.sources[i].level := by
    fin_cases i <;> rfl
  have htop : s.events.inService.headD 0 < 256 := by
    cases hin : s.events.inService with
    | nil => decide
    | cons l ls =>
      have hle := (hlevels l (hin ▸ List.mem_cons_self)).2
      exact Nat.lt_of_le_of_lt hle (by decide)
  refine ⟨rfl, fun i => ⟨hmask 0 _ rfl i, hmask 2 _ rfl i, ?_, ?_⟩, fun l h1 h4 => ?_, ?_, rfl⟩
  · rw [← hhigh]
    exact hmask 4 s.events.eligible rfl i
  · rw [hbyte i]
    have := hlevel i
    exact toNat_ofNat_byte (by omega)
  · have hflags : byteAt s.eventSummaryBytes 20 = flagBits [false, s.events.inService.contains 1,
        s.events.inService.contains 2, s.events.inService.contains 3, s.events.inService.contains 4] := rfl
    rw [hflags, flagBits_getLsbD _ (by omega), ← List.contains_iff_mem]
    interval_cases l <;> rfl
  · rw [← hhigh]
    exact toNat_ofNat_byte (hhigh ▸ htop)

/-! ### TRACE_STATUS (R149) -/

/-- TRACE_STATUS, field by field. -/
theorem State.traceStatus_fields (s : State) :
    s.traceStatusBytes.length = 24 ∧ byteAt s.traceStatusBytes 0 = s.trace.state.code ∧
    byteAt s.traceStatusBytes 1 = s.trace.config.mode.code ∧ byteAt s.traceStatusBytes 3 = s.trace.cause.code ∧
    (s.trace.records.length ≤ 512 → field s.traceStatusBytes 4 2 = s.trace.records.length) ∧
    (∀ r rs, s.trace.records = r :: rs →
      field s.traceStatusBytes 6 2 = r.seq.toNat ∧ (byteAt s.traceStatusBytes 2).getLsbD 0 = true) ∧
    (s.trace.records = [] → field s.traceStatusBytes 6 2 = 0 ∧ (byteAt s.traceStatusBytes 2).getLsbD 0 = false) ∧
    field s.traceStatusBytes 8 2 = s.trace.seq.toNat ∧
    (s.trace.postRemaining ≤ 512 → field s.traceStatusBytes 10 2 = s.trace.postRemaining) ∧
    (byteAt s.traceStatusBytes 2).getLsbD 1 = s.trace.triggerSeq.isSome ∧
    field s.traceStatusBytes 12 2 = (s.trace.triggerSeq.getD 0).toNat ∧
    field s.traceStatusBytes 16 4 = s.trace.overwritten.toNat ∧ field s.traceStatusBytes 20 4 = s.timeBase.toNat := by
  have hflags : byteAt s.traceStatusBytes 2 = flagBits [!s.trace.records.isEmpty, s.trace.triggerSeq.isSome] := rfl
  have hseq : field s.traceStatusBytes 6 2 = leNat (leBytes 2 (match s.trace.records with
      | [] => 0
      | r :: _ => r.seq.toNat)) := rfl
  rw [hflags, hseq]
  refine ⟨rfl, rfl, rfl, rfl, fun h => field_eq_of_take rfl (by omega), fun r rs h => ?_, fun h => ?_,
    field_eq_of_take rfl s.trace.seq.isLt, fun h => field_eq_of_take rfl (by omega), ?_,
    field_eq_of_take rfl (s.trace.triggerSeq.getD 0).isLt, field_eq_of_take rfl s.trace.overwritten.isLt,
    field_eq_of_take rfl s.timeBase.isLt⟩
  · rw [h, flagBits_getLsbD _ (by decide)]
    exact ⟨(leNat_leBytes 2 _).trans (Nat.mod_eq_of_lt r.seq.isLt), rfl⟩
  · rw [h, flagBits_getLsbD _ (by decide)]
    exact ⟨rfl, rfl⟩
  · rw [flagBits_getLsbD _ (by decide)]
    rfl

/-! ### The places of the 256 lines (R25, R37) -/

/-- A list without repetition has as many members as there are indices in it. -/
theorem length_eq_countP_of_nodup {n : Nat} {l : List (Fin n)} (h : l.Nodup) :
    l.length = (List.finRange n).countP fun i => decide (i ∈ l) := by
  have hperm : l.Perm ((List.finRange n).filter fun i => decide (i ∈ l)) :=
    (List.perm_ext_iff_of_nodup h ((List.nodup_finRange n).filter _)).mpr fun i => by simp
  rw [List.countP_eq_length_filter]
  exact hperm.length_eq

theorem LineStore.toList_lines (st : LineStore) : st.lines.toList = (List.finRange 256).map fun l => st.lines[l] := by
  refine List.ext_getElem (by simp) fun i h1 h2 => ?_
  rw [List.getElem_map, List.getElem_finRange, Vector.getElem_toList]
  rfl

/-- Free, bad-listed and referenced lines are all the 256 lines (R25). -/
theorem State.accounted.places {s : State} (h : s.accounted) :
    s.store.freeList.length + s.store.badList.length + s.store.referenced = 256 := by
  obtain ⟨-, -, hfreeNodup, hbadNodup, hfree, hbad⟩ := h
  have hcount : (List.finRange 256).countP (fun l => s.store.lines[l].refCount == 0) =
      s.store.freeList.length + s.store.badList.length := by
    rw [List.countP_eq_countP_filter_add _ _ (fun l => !s.store.lines[l].bad), List.countP_filter, List.countP_filter,
      length_eq_countP_of_nodup hfreeNodup, length_eq_countP_of_nodup hbadNodup]
    congr 1
    · refine List.countP_congr fun l _ => ?_
      simp [hfree l]
    · refine List.countP_congr fun l _ => ?_
      simp [hbad l]
  have hreferenced : s.store.referenced =
      (List.finRange 256).countP fun l => decide (¬ (s.store.lines[l].refCount == 0) = true) := by
    rw [LineStore.referenced, LineStore.toList_lines, List.countP_map]
    exact List.countP_congr fun l _ => by simp
  have htotal := List.length_eq_countP_add_countP (fun l : LineIdx => s.store.lines[l].refCount == 0)
    (l := List.finRange 256)
  rw [List.length_finRange, hcount, ← hreferenced] at htotal
  exact htotal.symm

/-- A count is one to a table at most (R24). -/
theorem State.accounted.refCount_le {s : State} (h : s.accounted) (l : LineIdx) : s.store.lines[l].refCount ≤ 3 := by
  obtain ⟨hcount, hexcl, -⟩ := h
  obtain ⟨ha, hb, hc⟩ := hexcl l
  rw [hcount l, Tables.refs]
  omega

/-- Place and position of a line, by the list it is on. -/
theorem State.accounted.placeOf {s : State} (h : s.accounted) (l : LineIdx) :
    (s.store.lines[l].refCount ≠ 0 → s.store.placeOf l = (2, 0)) ∧
    (∀ j, s.store.badList[j]? = some l → s.store.placeOf l = (1, j)) ∧
    (∀ j, s.store.freeList[j]? = some l → s.store.placeOf l = (0, j)) := by
  obtain ⟨-, -, hfreeNodup, hbadNodup, hfree, hbad⟩ := h
  have hidx {ls : List LineIdx} (hnodup : ls.Nodup) {j : Nat} (hj : ls[j]? = some l) : ls.idxOf l = j := by
    obtain ⟨hlt, rfl⟩ := List.getElem?_eq_some_iff.mp hj
    exact hnodup.idxOf_getElem j hlt
  refine ⟨fun hne => if_pos hne, fun j hj => ?_, fun j hj => ?_⟩
  · have hmem := List.mem_of_getElem? hj
    have hzero := ((hbad l).mp hmem).1
    exact (if_neg (not_not.mpr hzero)).trans
      ((if_pos (List.contains_iff_mem.mpr hmem)).trans (congrArg (Prod.mk 1) (hidx hbadNodup hj)))
  · obtain ⟨hzero, hgood⟩ := (hfree l).mp (List.mem_of_getElem? hj)
    have hnot : ¬ s.store.badList.contains l = true := fun hc =>
      Bool.false_ne_true (hgood.symm.trans ((hbad l).mp (List.contains_iff_mem.mp hc)).2)
    exact (if_neg (not_not.mpr hzero)).trans
      ((if_neg hnot).trans (congrArg (Prod.mk 0) (hidx hfreeNodup hj)))

theorem Table.names_iff (t : Table) (l : LineIdx) : t.names l = true ↔ t.refs l ≠ 0 := by
  rw [Table.names, List.any_eq_true, Table.refs, ← Nat.pos_iff_ne_zero, List.countP_pos_iff]

/-! ### QUERY_STORE (R37) -/

/-- The bytes of QUERY_STORE's summary before the bad-line list. -/
def LineStore.summaryHead (st : LineStore) : List Byte :=
  leBytes 2 st.freeList.length ++ (leBytes 2 st.badList.length ++ (leBytes 2 st.referenced ++
    [st.threshold, flagByte (!st.freeList.isEmpty),
     (match st.freeList with
      | [] => 0
      | l :: _ => BitVec.ofNat 8 l.val),
     BitVec.ofNat 8 (st.badList.take 16).length]))

/-- The first sixteen bad-listed lines, with zeros after them. -/
def LineStore.badBytes (st : LineStore) : List Byte :=
  (st.badList.take 16).map (fun l => BitVec.ofNat 8 l.val) ++ List.replicate (16 - (st.badList.take 16).length) 0

theorem LineStore.summaryBytes_eq (st : LineStore) : st.summaryBytes = st.summaryHead ++ st.badBytes := by
  simp only [LineStore.summaryBytes, LineStore.summaryHead, LineStore.badBytes, List.append_assoc] <;> rfl

theorem LineStore.badBytes_length (st : LineStore) : st.badBytes.length = 16 := by
  rw [LineStore.badBytes, List.length_append, List.length_map, List.length_replicate, List.length_take]
  omega

theorem LineStore.summaryBytes_length (st : LineStore) : st.summaryBytes.length = 26 := by
  rw [st.summaryBytes_eq, List.length_append, st.badBytes_length]
  rfl

theorem LineStore.badBytes_get (st : LineStore) {j : Nat} (hj : j < 16) :
    (byteAt st.badBytes j).toNat = (st.badList[j]?.map fun m => m.val).getD 0 := by
  unfold LineStore.badBytes byteAt
  by_cases hlt : j < st.badList.length
  · have hget : st.badList[j]? = some st.badList[j] := List.getElem?_eq_getElem hlt
    rw [List.getD_append _ _ _ _ (by rw [List.length_map, List.length_take]; omega), List.getD_eq_getElem?_getD,
      List.getElem?_map, List.getElem?_take_of_lt hj, hget]
    exact toNat_ofNat_byte st.badList[j].isLt
  · have hget : st.badList[j]? = none := List.getElem?_eq_none (by omega)
    rw [List.getD_append_right _ _ _ _ (by rw [List.length_map, List.length_take]; omega), hget,
      List.getD_eq_getElem?_getD, List.getElem?_replicate]
    split <;> rfl

section
variable {s : State} (rec : List Byte)

/-- The summary, whatever follows it. -/
theorem State.accounted.summary_fields (h : s.accounted) :
    field (s.store.summaryBytes ++ rec) 0 2 = s.store.freeList.length ∧
    field (s.store.summaryBytes ++ rec) 2 2 = s.store.badList.length ∧
    field (s.store.summaryBytes ++ rec) 0 2 + field (s.store.summaryBytes ++ rec) 2 2 +
      field (s.store.summaryBytes ++ rec) 4 2 = 256 ∧
    byteAt (s.store.summaryBytes ++ rec) 6 = s.store.threshold ∧
    (∀ m ms, s.store.freeList = m :: ms →
      byteAt (s.store.summaryBytes ++ rec) 7 = 1 ∧ (byteAt (s.store.summaryBytes ++ rec) 8).toNat = m.val) ∧
    (s.store.freeList = [] → byteAt (s.store.summaryBytes ++ rec) 7 = 0 ∧ byteAt (s.store.summaryBytes ++ rec) 8 = 0) ∧
    (byteAt (s.store.summaryBytes ++ rec) 9).toNat = min 16 s.store.badList.length ∧
    ∀ j < 16, (byteAt (s.store.summaryBytes ++ rec) (10 + j)).toNat =
      (s.store.badList[j]?.map (fun m => m.val)).getD 0 := by
  have hplaces := h.places
  rw [s.store.summaryBytes_eq, List.append_assoc]
  generalize hrest : s.store.badBytes ++ rec = rest
  have hfree : field (s.store.summaryHead ++ rest) 0 2 = s.store.freeList.length := field_eq_of_take rfl (by omega)
  have hbad : field (s.store.summaryHead ++ rest) 2 2 = s.store.badList.length := field_eq_of_take rfl (by omega)
  have hreferenced : field (s.store.summaryHead ++ rest) 4 2 = s.store.referenced := field_eq_of_take rfl (by omega)
  have h7 : byteAt (s.store.summaryHead ++ rest) 7 = flagByte (!s.store.freeList.isEmpty) := rfl
  have h8 : byteAt (s.store.summaryHead ++ rest) 8 =
      (match s.store.freeList with
       | [] => 0
       | l :: _ => BitVec.ofNat 8 l.val) := rfl
  refine ⟨hfree, hbad, by rw [hfree, hbad, hreferenced]; exact hplaces, rfl, fun m ms hm => ?_, fun hnil => ?_, ?_,
    fun j hj => ?_⟩
  · rw [h7, h8, hm]
    exact ⟨rfl, toNat_ofNat_byte m.isLt⟩
  · rw [h7, h8, hnil]
    exact ⟨rfl, rfl⟩
  · have h9 : byteAt (s.store.summaryHead ++ rest) 9 = BitVec.ofNat 8 (s.store.badList.take 16).length := rfl
    rw [h9, List.length_take]
    exact toNat_ofNat_byte (by omega)
  · have hat : byteAt (s.store.summaryHead ++ rest) (10 + j) = byteAt rest j := byteAt_append _ _ _ j rfl
    rw [hat, ← hrest, byteAt_append_left _ (s.store.badBytes_length ▸ hj)]
    exact s.store.badBytes_get hj

/-- The record of a line, behind the summary. -/
theorem State.accounted.lineRecord_fields (h : s.accounted) (l : LineIdx) {p : List Byte}
    (hp : p = s.store.summaryBytes ++ s.lineRecordBytes l) :
    (byteAt p 26).toNat = l.val ∧ (byteAt p 27).toNat = s.store.lines[l].refCount ∧
    byteAt p 28 = flagByte s.store.lines[l].bad ∧
    (s.store.lines[l].refCount ≠ 0 → byteAt p 29 = 2 ∧ field p 30 2 = 0) ∧
    (∀ j, s.store.badList[j]? = some l → byteAt p 29 = 1 ∧ field p 30 2 = j) ∧
    (∀ j, s.store.freeList[j]? = some l → byteAt p 29 = 0 ∧ field p 30 2 = j) ∧
    ((byteAt p 32).getLsbD 0 = true ↔ (s.table .active).refs l ≠ 0) ∧
    ((byteAt p 32).getLsbD 1 = true ↔ (s.table .staged).refs l ≠ 0) ∧
    ((byteAt p 32).getLsbD 2 = true ↔ (s.table .retained).refs l ≠ 0) := by
  subst hp
  have hplaces := h.places
  obtain ⟨hreferenced, hbad, hfree⟩ := h.placeOf l
  have hat (k : Nat) : byteAt (s.store.summaryBytes ++ s.lineRecordBytes l) (26 + k) =
      byteAt (s.lineRecordBytes l) k := byteAt_append _ _ _ k (by rw [s.store.summaryBytes_length])
  have hplace (b : Byte) (j : Nat) (hj : j < 65536) (hpl : s.store.placeOf l = (b, j)) :
      byteAt (s.store.summaryBytes ++ s.lineRecordBytes l) 29 = b ∧
        field (s.store.summaryBytes ++ s.lineRecordBytes l) 30 2 = j := by
    have hfield : field (s.store.summaryBytes ++ s.lineRecordBytes l) 30 2 = field (s.lineRecordBytes l) 4 2 :=
      field_append _ _ 2 _ 4 (by rw [s.store.summaryBytes_length])
    have h3 : byteAt (s.lineRecordBytes l) 3 = (s.store.placeOf l).1 := rfl
    have h4 : field (s.lineRecordBytes l) 4 2 = leNat (leBytes 2 (s.store.placeOf l).2) := rfl
    rw [hat 3, hfield, h3, h4, hpl, leNat_leBytes]
    exact ⟨rfl, Nat.mod_eq_of_lt hj⟩
  have hnames (k : Nat) (hk : k < 8) : (byteAt (s.store.summaryBytes ++ s.lineRecordBytes l) 32).getLsbD k =
      [(s.table .active).names l, (s.table .staged).names l, (s.table .retained).names l].getD k false := by
    rw [hat 6, ← flagBits_getLsbD _ hk]
    rfl
  refine ⟨?_, ?_, hat 2, fun hne => hplace 2 0 (by decide) (hreferenced hne), fun j hj => hplace 1 j ?_ (hbad j hj),
    fun j hj => hplace 0 j ?_ (hfree j hj), ?_, ?_, ?_⟩
  · rw [hat 0]
    exact toNat_ofNat_byte l.isLt
  · rw [hat 1]
    have := h.refCount_le l
    exact toNat_ofNat_byte (by omega)
  · obtain ⟨hlt, -⟩ := List.getElem?_eq_some_iff.mp hj
    omega
  · obtain ⟨hlt, -⟩ := List.getElem?_eq_some_iff.mp hj
    omega
  · rw [hnames 0 (by decide)]
    exact Table.names_iff _ l
  · rw [hnames 1 (by decide)]
    exact Table.names_iff _ l
  · rw [hnames 2 (by decide)]
    exact Table.names_iff _ l

end

theorem lineIndexArg_of_line (l : LineIdx) : lineIndexArg [BitVec.ofNat 8 l.val, 0] = some l := by
  refine lineIndexArg_of_eq ?_
  show (BitVec.ofNat 8 l.val).toNat + 256 * 0 = l.val
  rw [toNat_ofNat_byte l.isLt]
  rfl

/-! ### The five commands -/

theorem querySets_reports {s : State} {tag : Byte} {rest : List QueuedCommand} (hoff : s.offers 0x29 tag [] rest) :
    exec .querySets s = .next (s.ended rest tag .ok s.querySetsBytes) := exec_eq_ended rfl hoff rfl rfl

theorem eventStatus_refuses {s : State} {tag : Byte} {q : List Byte} {rest : List QueuedCommand}
    (hoff : s.offers 0x73 tag q rest) (hq : q.length = 1) (hb : byteAt q 0 = 0 ∨ 14 < (byteAt q 0).toNat) :
    exec .eventStatus s = .next (s.ended rest tag .badArgument []) := by
  have hnone : EventSource.ofNumber (byteAt q 0).toNat = none := by
    refine Option.eq_none_iff_forall_ne_some.mpr fun src hsrc => ?_
    have hn := EventSource.ofNumber_eq_some_iff.mp hsrc
    have := src.number_bounds
    obtain hb | hb := hb
    · rw [hb] at hn
      have hz : (0 : Byte).toNat = 0 := rfl
      omega
    · omega
  refine exec_eq_ended (t := s) rfl hoff (by rw [hq]; rfl) ?_
  simp only [State.runEventStatus, hnone, hq, State.refuse_eq]
  rfl

theorem eventStatus_source {s : State} {tag : Byte} {rest : List QueuedCommand} {i : Fin 14}
    (hoff : s.offers 0x73 tag [BitVec.ofNat 8 (i.val + 1)] rest) :
    exec .eventStatus s = .next (s.ended rest tag .ok (s.events.sourceBytes i)) := by
  have hnumber : EventSource.ofNumber (byteAt [BitVec.ofNat 8 (i.val + 1)] 0).toNat = some (EventSource.ofIndex i) := by
    refine EventSource.ofNumber_eq_some_iff.mpr ?_
    rw [byteAt_cons_zero, toNat_ofNat_byte (by omega), EventSource.number, ← EventSource.ofIndex_eq_iff.mp rfl]
  refine exec_eq_ended (t := s) rfl hoff rfl ?_
  simp only [State.runEventStatus, hnumber, ← EventSource.ofIndex_eq_iff.mp (rfl : EventSource.ofIndex i = _)]
  rfl

/-- Settles O45: each payload field by field; the accounting gives the sum of 256. -/
theorem statusCommandsReport : Obligations.StatusCommandsReport := by
  refine ⟨fun s tag rest hoff => ?sets, fun s tag rest hoff => ?trace, fun s tag rest hoff hfits => ?summary,
    fun s tag rest i hoff => eventStatus_source hoff, fun s tag q rest hoff hacc l hq => ?store,
    fun s tag q rest => ⟨fun hoff hq hgt => ?badLine, fun hoff hq hb => eventStatus_refuses hoff hq hb⟩,
    fun s tag rest hoff => ?identify⟩
  case sets =>
    obtain ⟨hcommit, hnone, h35, hcrc⟩ := s.querySetsBytes_commit
    obtain ⟨hloading, hverifying, hother⟩ := s.startedBy_cases
    have h28 : byteAt s.querySetsBytes 28 = s.startedBy := s.querySetsBytes_head (by decide)
    refine ⟨s.querySetsBytes, querySets_reports hoff, ?_, fun r off hroff => ?_,
      s.querySetsBytes_head (by decide), fun h => h28.trans (hloading h), fun v h hv hp => ⟨h28.trans (hverifying v h hv), ?_⟩,
      fun h1 h2 => h28.trans (hother h1 h2), s.querySetsBytes_head (by decide), hcommit, hnone, h35, hcrc⟩
    · rw [s.querySetsBytes_eq, List.length_append, List.length_append, s.commitBytes_length]
      rfl
    · have heq := s.querySetsBytes_eq
      simp only [State.setsHead, List.append_assoc] at heq
      cases r with
      | active => exact s.roleBytes_fields .active [] _ _ off heq hroff.symm
      | staged => exact s.roleBytes_fields .staged _ _ _ off heq hroff.symm
      | retained =>
        rw [← List.append_assoc] at heq
        exact s.roleBytes_fields .retained _ _ _ off heq hroff.symm
    · have h29 : byteAt s.querySetsBytes 29 =
          (match s.scu.verifier with
           | none => 0
           | some v => BitVec.ofNat 8 v.passed) := s.querySetsBytes_head (by decide)
      rw [h29, hv]
      exact toNat_ofNat_byte hp
  case trace => exact ⟨s.traceStatusBytes, exec_eq_ended (t := s) rfl hoff rfl rfl, s.traceStatus_fields⟩
  case summary => exact ⟨s.eventSummaryBytes, exec_eq_ended (t := s) rfl hoff rfl rfl, s.eventSummary_fields hfits⟩
  case badLine =>
    refine exec_eq_ended (t := s) rfl hoff (by rw [hq]; rfl) ?_
    simp only [State.runQueryStore, hq, lineIndexArg_of_gt hgt, State.refuse_eq]
    rfl
  case identify =>
    refine exec_eq_ended (t := s) rfl hoff rfl (congrArg (fun b : Byte => (s.taken rest, ResultCode.ok,
      [0x4C, 0x5A, 0x56, 0x02, 1, 1, 1, 0, 0, 1, 3, 64, 8, 14, 0, 2, 4, 8, s.straps.mode.code,
       s.straps.imgSel.setWidth 8, b])) ?_)
    show s.startPhase.code = _
    unfold State.startPhase
    cases s.hbi.held <;> cases s.startUpInHand <;> rfl
  case store =>
    obtain rfl | rfl := hq
    · have hfields := hacc.summary_fields []
      rw [List.append_nil] at hfields
      obtain ⟨h0, h2, hsum, h6, hfree, hnil, h9, hbad⟩ := hfields
      exact ⟨s.store.summaryBytes, exec_eq_ended (t := s) rfl hoff rfl rfl, s.store.summaryBytes_length, h0, h2, hsum,
        h6, hfree, hnil, h9, hbad, fun h => absurd rfl h⟩
    · obtain ⟨h0, h2, hsum, h6, hfree, hnil, h9, hbad⟩ := hacc.summary_fields (s.lineRecordBytes l)
      have hrecord := hacc.lineRecord_fields l rfl
      refine ⟨s.store.summaryBytes ++ s.lineRecordBytes l, exec_eq_ended (t := s) rfl hoff rfl ?_, ?_, h0, h2, hsum,
        h6, hfree, hnil, h9, hbad, fun _ => hrecord⟩
      · simp only [State.runQueryStore, lineIndexArg_of_line]
        rfl
      · rw [List.length_append, s.store.summaryBytes_length, if_neg nofun]
        rfl

end Sys2Proof.Machine
end

section
/-! PROOF. The image loader's words: header, records, the end of the body and the failures (O39). -/

namespace Sys2Proof.Machine

open Sys2Proof

set_option Elab.async false

/-! ### The header test (R83) -/

theorem headerFieldsOk_iff (h : List Byte) :
    headerFieldsOk h = true ↔
      field h 8 2 ≠ 0 ∧ byteAt h 7 = 0 ∧ byteAt h 15 = 0 ∧ field h 18 2 = 0 ∧ field h 26 4 = 0 ∧
      ((byteAt h 5 = 1 ∧ 1 ≤ field h 10 2 ∧ field h 10 2 ≤ 2048 ∧ field h 12 3 ≤ 0x7FFFFF ∧
          field h 12 3 + field h 10 2 ≤ 0x800000) ∨
        (byteAt h 5 = 0 ∧ field h 10 2 = 0 ∧ field h 12 3 = 0 ∧ field h 16 2 = 0)) := by
  have hflag : (byteAt h 5).toNat ≤ 1 ↔ byteAt h 5 = 0 ∨ byteAt h 5 = 1 := by
    generalize byteAt h 5 = b
    constructor
    · intro hb
      have hcases : b.toNat = 0 ∨ b.toNat = 1 := by omega
      exact hcases.imp (fun h0 => BitVec.eq_of_toNat_eq h0) fun h1 => BitVec.eq_of_toNat_eq h1
    · rintro (rfl | rfl) <;> decide
  have hgate : headerGatePresent h = (byteAt h 5).getLsbD 0 := rfl
  rw [show (0x800000 : Nat) = Config.hostLines from rfl]
  unfold headerFieldsOk
  rw [hgate]
  simp only [Bool.and_eq_true, bne_iff_ne, ne_eq, beq_iff_eq, decide_eq_true_eq, hflag, and_assoc]
  by_cases h1 : byteAt h 5 = 1
  · simp [h1, and_assoc]
  · by_cases h0 : byteAt h 5 = 0
    · simp [h0, and_assoc]
    · simp only [h0, h1, false_or, false_and, and_false]

/-- The reason for which a header fails its tests (R83). -/
def headerReason (h : List Byte) : ParseReason :=
  if field h 0 4 ≠ 0x3153505A then .badMagic
  else if byteAt h 4 ≠ 1 then .badVersion
  else if field h 30 2 ≠ (crc16 (h.take 30)).toNat then .badHeaderCrc
  else if 64 < (byteAt h 6).toNat then .badCount
  else .badHeaderField

theorem headerTest_eq (h : List Byte) :
    headerTest h =
      if field h 0 4 ≠ 0x3153505A then some .badMagic
      else if byteAt h 4 ≠ 1 then some .badVersion
      else if field h 30 2 ≠ (crc16 (h.take 30)).toNat then some .badHeaderCrc
      else if 64 < (byteAt h 6).toNat then some .badCount
      else if !headerFieldsOk h then some .badHeaderField
      else none := rfl

theorem headerTest_of_good {h : List Byte} (hg : headerGood h) : headerTest h = none := by
  obtain ⟨hmagic, hversion, hcrc, hcount, hfields⟩ := hg
  rw [headerTest_eq, if_neg (not_not.mpr hmagic), if_neg (not_not.mpr hversion), if_neg (not_not.mpr hcrc),
    if_neg (Nat.not_lt.mpr hcount), (headerFieldsOk_iff h).mpr hfields]
  rfl

theorem headerTest_of_not_good {h : List Byte} (hg : ¬ headerGood h) : headerTest h = some (headerReason h) := by
  rw [headerTest_eq, headerReason]
  by_cases hmagic : field h 0 4 ≠ 0x3153505A
  · rw [if_pos hmagic, if_pos hmagic]
  rw [if_neg hmagic, if_neg hmagic]
  by_cases hversion : byteAt h 4 ≠ 1
  · rw [if_pos hversion, if_pos hversion]
  rw [if_neg hversion, if_neg hversion]
  by_cases hcrc : field h 30 2 ≠ (crc16 (h.take 30)).toNat
  · rw [if_pos hcrc, if_pos hcrc]
  rw [if_neg hcrc, if_neg hcrc]
  by_cases hcount : 64 < (byteAt h 6).toNat
  · rw [if_pos hcount, if_pos hcount]
  rw [if_neg hcount, if_neg hcount, if_pos]
  rw [Bool.not_eq_true', Bool.eq_false_iff]
  exact fun hfields => hg ⟨not_not.mp hmagic, not_not.mp hversion, not_not.mp hcrc, Nat.not_lt.mp hcount,
    (headerFieldsOk_iff h).mp hfields⟩

/-! ### The fixed part of a record in hand (R84) -/

theorem EntryRecord.bytes_take (r : EntryRecord) : r.bytes.take 8 = r.fixed.bytes := by
  rw [r.bytes_eq, ← r.fixed.bytes_length, List.take_left]

theorem EntryRecord.bytes_length {r : EntryRecord} (h : r.wellFormed = true) :
    r.bytes.length = r.fixed.recordLength := by
  obtain ⟨-, hfits⟩ := EntryRecord.wellFormed_iff.mp h
  rw [r.bytes_eq, List.length_append, List.length_append, r.fixed.bytes_length, originBytes_length,
    hfits.bytes_length, r.fixed.recordLength_eq]
  exact Nat.add_assoc _ _ _ |>.symm

/-- Bytes that begin as a well-formed record have its fixed part. -/
theorem parseFixed_of_take {p : List Byte} {r : EntryRecord} (hwf : r.wellFormed = true)
    (htake : r.bytes.take 8 = p.take 8) : parseFixed p = some r.fixed := by
  obtain ⟨hformed, -⟩ := EntryRecord.wellFormed_iff.mp hwf
  have hp : p = r.fixed.bytes ++ p.drop 8 := by rw [← r.bytes_take, htake, List.take_append_drop]
  rw [hp]
  exact parseFixed_eq_some_iff.mpr (FixedPart.laidOut_bytes hformed _)

/-- A kind-specific part of zeros for a fixed part. -/
def FixedPart.zeroBody (f : FixedPart) : RecordBody :=
  match f.kind with
  | .substitute => .substitute f.mask (List.replicate (maskedIdxs f.mask).length 0)
  | .redirect => .redirect .ce0 0
  | .watch => .watch 0 .reads

/-- Every formed fixed part is that of a well-formed record. -/
theorem FixedPart.formed.exists_record {f : FixedPart} (h : f.formed) : ∃ r : EntryRecord, r.wellFormed = true ∧
    r.fixed = f := by
  have hfits : f.zeroBody.fits f := by
    unfold FixedPart.zeroBody
    cases hk : f.kind with
    | substitute => exact ⟨hk, rfl, List.length_replicate⟩
    | redirect => exact hk
    | watch => exact hk
  have horigin : (if f.hasOrigin then some (0 : BitVec 16) else none).isSome = f.hasOrigin := by
    cases f.hasOrigin <;> rfl
  have hfixed := FixedPart.record_fixed h horigin hfits
  exact ⟨_, EntryRecord.wellFormed_iff.mpr (hfixed.symm ▸ ⟨h, hfits⟩), hfixed⟩

/-- Eight bytes that no well-formed record begins with have a malformed fixed part. -/
theorem parseFixed_eq_none {p : List Byte} (hlen : p.length = 8)
    (h : ∀ r : EntryRecord, r.wellFormed = true → r.bytes.take 8 ≠ p) : parseFixed p = none := by
  refine Option.eq_none_iff_forall_ne_some.mpr fun f hf => ?_
  have hlaid := parseFixed_eq_some_iff.mp hf
  obtain ⟨r, hwf, rfl⟩ := hlaid.formed.exists_record
  refine h r hwf ?_
  rw [r.bytes_take, ← hlaid.take_eq, ← hlen, List.take_length]

/-! ### The loader's word (R81, R83, R84) -/

theorem mdBytes_length (w : Word) : (mdBytes w).length = 4 := wordBytes_length w

/-- The loader after a header word. -/
def State.headerTaken (s : State) (w : Word) : State :=
  { s with loader := { s.loader with header := s.loader.header ++ mdBytes w, cursor := s.loader.cursor + 4 } }

/-- The loader after a word of a record. -/
def State.recordTaken (s : State) (w : Word) : State :=
  { s with loader := { s.loader with record := s.loader.record ++ mdBytes w, cursor := s.loader.cursor + 4 } }

section
variable {s : State} {w : Word}

theorem State.loaderWord_header (h : s.loader.state = .header) :
    s.loaderWord w =
      if (s.loader.header ++ mdBytes w).length < 32 then (s.headerTaken w).loaderRequest
      else (s.headerTaken w).headerRead := by
  unfold State.loaderWord
  rw [h]
  rfl

theorem State.loaderWord_body_short (h : s.loader.state = .body) (hlen : (s.loader.record ++ mdBytes w).length < 8) :
    s.loaderWord w = (s.recordTaken w).loaderRequest := by
  unfold State.loaderWord
  rw [h]
  exact if_pos hlen

theorem State.loaderWord_body_malformed (h : s.loader.state = .body)
    (hlen : ¬ (s.loader.record ++ mdBytes w).length < 8) (hf : parseFixed (s.loader.record ++ mdBytes w) = none) :
    s.loaderWord w = (s.recordTaken w).loadFailed .badRecord := by
  unfold State.loaderWord
  rw [h]
  refine (if_neg hlen).trans ?_
  rw [hf]
  rfl

theorem State.loaderWord_body_fixed (h : s.loader.state = .body) {f : FixedPart}
    (hlen : ¬ (s.loader.record ++ mdBytes w).length < 8) (hf : parseFixed (s.loader.record ++ mdBytes w) = some f) :
    s.loaderWord w =
      if (s.loader.record ++ mdBytes w).length < f.recordLength then (s.recordTaken w).loaderRequest
      else (s.recordTaken w).recordRead (s.loader.record ++ mdBytes w) := by
  unfold State.loaderWord
  rw [h]
  refine (if_neg hlen).trans ?_
  rw [hf]
  rfl

/-- A header that fails a test ends the load (R83, R86). -/
theorem State.headerRead_of_not_good (h : ¬ headerGood s.loader.header) :
    s.headerRead = s.loadFailed (headerReason s.loader.header) := by
  simp only [State.headerRead, headerTest_of_not_good h]

/-- The loader in BODY, before the first of its records. -/
def State.bodyOpened (s : State) : State :=
  { s with loader := { s.loader with state := .body, remaining := headerCount s.loader.header, sum := 0, record := [] } }

theorem State.headerRead_of_good (h : headerGood s.loader.header) : s.headerRead = s.bodyOpened.nextRecord := by
  simp only [State.headerRead, headerTest_of_good h]
  rfl

theorem State.nextRecord_of_zero (h : s.loader.remaining = 0) : s.nextRecord = s.endOfBody := if_pos h

theorem State.nextRecord_of_ne (h : s.loader.remaining ≠ 0) : s.nextRecord = s.loaderRequest := if_neg h

/-- The end of the body, in the words of the statements (R85). -/
theorem State.bodyEnds_endOfBody (h : s.loader.state = .body) : s.bodyEnds (.next s.endOfBody) := by
  refine ⟨fun hsum hacc => ⟨_, hacc.tableReleased .staged fun _ => rfl, ?_⟩, fun hsum => ?_⟩
  · have hend : s.endOfBody = s.loadFailed .lengthMismatch := if_pos hsum
    rw [hend, State.loadFailed_eq, if_pos h]
  · refine congrArg Host.Outcome.next ?_
    unfold State.endOfBody
    exact if_neg (not_not.mpr hsum)

/-! ### A record read whole (R84 steps 2 to 5) -/

/-- The loader goes on behind an entry placed in the staged table. -/
def State.placed (s : State) (i : Slot) (e : Entry) (len : Nat) : State :=
  State.setTable
    { s with loader := { s.loader with
        remaining := s.loader.remaining - 1, sum := s.loader.sum + len, record := [] } }
    .staged ((s.table .staged).setSlot i (some e))

theorem State.placeEntry_eq (i : Slot) (e : Entry) (len : Nat) :
    s.placeEntry i e len = (s.placed i e len).nextRecord := rfl

variable {p : List Byte} {r : EntryRecord} {i : Slot}

theorem State.recordRead_of_malformed (h : parseRecord p = none) : s.recordRead p = s.loadFailed .badRecord := by
  simp only [State.recordRead, h]

theorem State.recordRead_of_present (h : parseRecord p = some r) (hfind : (s.table .staged).find r.line ≠ none) :
    s.recordRead p = s.loadFailed .duplicate := by
  simp only [State.recordRead, h, Option.isSome_iff_ne_none.mpr hfind, if_true]

variable (h : parseRecord p = some r) (hfind : (s.table .staged).find r.line = none)
  (hfree : (s.table .staged).lowestFree = some i)

include h hfind hfree

theorem State.recordRead_lineless (hb : r.lineless) (l : LineIdx) :
    s.recordRead p = (s.placed i (r.toEntry l) p.length).nextRecord := by
  rw [← hb.toEntry_eq 0 l, ← State.placeEntry_eq]
  simp only [State.recordRead, h, hfind, hfree, Option.isSome_none, Bool.false_eq_true, if_false]
  cases hbody : r.body with
  | substitute mask data => exact absurd hbody (hb mask data)
  | redirect ce target => rfl
  | watch threshold dir => rfl

theorem State.recordRead_noLine {mask : BitVec 8} {data : List Word} (hb : r.body = .substitute mask data)
    (hnil : s.store.freeList = []) : s.recordRead p = s.loadFailed .noLine := by
  simp only [State.recordRead, h, hfind, hfree, hb, State.allocate_of_nil hnil, Option.isSome_none, Bool.false_eq_true,
    if_false]

theorem State.recordRead_substitute {mask : BitVec 8} {data : List Word} (hb : r.body = .substitute mask data)
    {l : LineIdx} {ls : List LineIdx} (hcons : s.store.freeList = l :: ls) :
    s.recordRead p =
      (State.placed { s.freeLowTest ls.length with store := s.store.afterAllocation l ls mask data } i (r.toEntry l)
        p.length).nextRecord := by
  simp only [State.recordRead, h, hfind, hfree, hb, State.allocate_of_cons hcons, State.placeEntry_eq, Option.isSome_none,
    Bool.false_eq_true, if_false]

end

@[simp] theorem State.freeLowTest_loader (s : State) (n : Nat) : (s.freeLowTest n).loader = s.loader := by
  unfold State.freeLowTest
  split <;> rfl

/-- The words of a line are those of its eight indices. -/
theorem StoreLine.words_ext {x y : StoreLine} (h : ∀ i : WordIdx, x.words[i] = y.words[i]) : x.words = y.words :=
  Vector.ext fun i hi => h ⟨i, hi⟩

theorem StoreLine.ext_of {x y : StoreLine} (hw : x.words = y.words) (hc : x.refCount = y.refCount) (hb : x.bad = y.bad) :
    x = y := by
  cases x
  cases y
  simp_all

/-- What an allocation leaves of the store is determined (R26). -/
theorem LineStore.allocated.eq_afterAllocation {before after : LineStore} {l : LineIdx} {rest : List LineIdx}
    {mask : BitVec 8} {data : List Word} (h : before.allocated after l rest mask data) :
    after = before.afterAllocation l rest mask data := by
  obtain ⟨hfree, hbad, hthr, hcount, hmark, hwords, hothers⟩ := h
  obtain ⟨hfree', hbad', hthr', hcount', hmark', hwords', hothers'⟩ := before.allocated_afterAllocation l rest mask data
  have hlines : after.lines = (before.afterAllocation l rest mask data).lines := by
    refine Vector.ext fun m hm => ?_
    by_cases hml : (⟨m, hm⟩ : LineIdx) = l
    · subst hml
      exact StoreLine.ext_of (StoreLine.words_ext fun i => (hwords i).trans (hwords' i).symm)
        (hcount.trans hcount'.symm) (hmark.trans hmark'.symm)
    · exact (hothers ⟨m, hm⟩ hml).trans (hothers' ⟨m, hm⟩ hml).symm
  obtain ⟨lines, free, bad, thr⟩ := after
  have h1 : lines = (before.afterAllocation l rest mask data).lines := hlines
  have h2 : free = rest := hfree
  have h3 : bad = before.badList := hbad
  have h4 : thr = before.threshold := hthr
  subst h1 h2 h3 h4
  rfl

/-! ### The loader at the end of its access -/

/-- The end of a loader access: the port is freed, and the loader takes its word. -/
theorem exec_accessComplete_loader {s : State} {a : Access} (md : Word) (us : List Upset) (hs : s.inReset = false)
    (ha : s.port.access = some a) (hwho : a.who = .loader) (hg : a.givenUp = false) :
    exec (.accessComplete md us) s = .next ((s.freePort.upset us).loaderWord md) := by
  rw [exec_accessComplete md us hs ha, hg, hwho]
  rfl

/-- A load that fails at a word is discarded, in the words of the statements (R86, R87). -/
theorem exists_parseFailed {s w : State} {us : List Upset} {reason : ParseReason} {gen : Generation} {result : Result}
    (hexec : result = .next (w.loadFailed reason)) (htable : w.table .staged = s.table .staged)
    (hstore : w.store = s.store.upset us)
    (hgen : gen = if w.loader.state = .body then headerGeneration w.loader.header else 0) (hacc : s.accounted) :
    ∃ st : LineStore, (s.store.upset us).tableReleased st (s.table .staged) ∧
      result = .next (w.parseFailed st reason gen) := by
  obtain ⟨hlines, -⟩ := LineStore.upset_frame s.store us
  refine ⟨_, hacc.tableReleased .staged fun l => (hlines l).1, ?_⟩
  rw [hexec, State.loadFailed_eq, htable, hstore, hgen]

/-- A record read whole goes on behind the entry placed, in the words of the statements (R84). -/
theorem State.recordRead_placed {w fl : State} {p : List Byte} {r : EntryRecord} {i : Slot} {l : LineIdx}
    {st : LineStore} (hparse : parseRecord p = some r) (hfind : (w.table .staged).find r.line = none)
    (hlow : (w.table .staged).lowestFree = some i)
    (hline : match r.body with
      | .substitute mask data =>
        ∃ ls, w.store.freeList = l :: ls ∧ w.store.allocated st l ls mask data ∧ fl = w.freeLowTest ls.length
      | _ => st = w.store ∧ fl = w) :
    w.recordRead p = (State.setTable
      { fl with
        store := st
        loader := { w.loader with
          record := [], remaining := w.loader.remaining - 1, sum := w.loader.sum + p.length } }
      .staged ((w.table .staged).setSlot i (some (r.toEntry l)))).nextRecord := by
  cases hb : r.body with
  | substitute mask data =>
    rw [hb] at hline
    obtain ⟨ls, hcons, hst, rfl⟩ := hline
    rw [State.recordRead_substitute hparse hfind hlow hb hcons, hst.eq_afterAllocation]
    have htable : State.table { w.freeLowTest ls.length with store := w.store.afterAllocation l ls mask data } .staged =
        w.table .staged := by
      simp only [State.table, State.freeLowTest_tables, State.freeLowTest_roles]
    rw [State.placed, htable, State.freeLowTest_loader]
  | redirect ce target =>
    rw [hb] at hline
    obtain ⟨rfl, rfl⟩ := hline
    exact State.recordRead_lineless hparse hfind hlow (fun _ _ h => absurd (hb.symm.trans h) nofun) l
  | watch threshold dir =>
    rw [hb] at hline
    obtain ⟨rfl, rfl⟩ := hline
    exact State.recordRead_lineless hparse hfind hlow (fun _ _ h => absurd (hb.symm.trans h) nofun) l

/-- Settles O39: by the loader's state and the length of what it has read; the record parser decides the rest. -/
theorem loaderTakesItsWords : Obligations.LoaderTakesItsWords := by
  intro s a md us k hs ha hwho hg hk
  have hexec := exec_accessComplete_loader md us hs ha hwho hg
  have hmd := mdBytes_length md
  refine ⟨fun hstate hlen => ?more, fun hstate hlen h w hh hw => ?header, fun hstate p w hp hw => ?body⟩
  case more =>
    have hshort : ((s.freePort.upset us).loader.header ++ mdBytes md).length < 32 := by
      rw [List.length_append, hmd]
      exact hlen
    rw [hexec, State.loaderWord_header (s := s.freePort.upset us) hstate, if_pos hshort, hk]
    rfl
  case header =>
    have hlong : ¬ ((s.freePort.upset us).loader.header ++ mdBytes md).length < 32 := by
      rw [List.length_append, hmd, State.upset_loader, State.freePort_loader, hlen]
      decide
    have htaken : w = (s.freePort.upset us).headerTaken md := by
      rw [hw, hh, hk]
      rfl
    have hwh : w.loader.header = h := by rw [hw]
    have hread : exec (.accessComplete md us) s = .next w.headerRead := by
      rw [hexec, State.loaderWord_header (s := s.freePort.upset us) hstate, if_neg hlong, htaken]
    refine ⟨fun hbad hacc reason hreason => ?fails, fun hgood hne => ?opens, fun hgood hzero w' hw' => ?ends⟩
    case fails =>
      rw [hk]
      rw [State.headerRead_of_not_good (hwh ▸ hbad), hwh] at hread
      rw [hreason]
      refine exists_parseFailed hread (by rw [htaken]; rfl) (by rw [htaken]; rfl) ?_ hacc
      have hws : w.loader.state = .header := by rw [htaken]; exact hstate
      rw [hws]
      rfl
    case opens =>
      rw [hread, State.headerRead_of_good (hwh ▸ hgood)]
      have hremaining : w.bodyOpened.loader.remaining ≠ 0 := by
        intro hz
        have hz' : (byteAt h 6).toNat = 0 := hwh ▸ hz
        exact hne (BitVec.eq_of_toNat_eq hz')
      rw [State.nextRecord_of_ne hremaining, ← hwh]
      rfl
    case ends =>
      have hopened : w' = w.bodyOpened := by
        have hcount : headerCount w.loader.header = 0 := by rw [hwh, headerCount, hzero]; rfl
        rw [hw', State.bodyOpened, hcount]
      have hremaining : w'.loader.remaining = 0 := by rw [hw']
      have hbody : w'.loader.state = .body := by rw [hw']
      rw [hread, State.headerRead_of_good (hwh ▸ hgood), ← hopened, State.nextRecord_of_zero hremaining]
      exact State.bodyEnds_endOfBody hbody
  case body =>
    have hp : (s.freePort.upset us).loader.record ++ mdBytes md = p := hp.symm
    have htaken : w = (s.freePort.upset us).recordTaken md := by
      rw [hw, ← hp, hk]
      rfl
    have hwtable : w.table .staged = s.table .staged := by rw [htaken]; rfl
    have hwstore : w.store = s.store.upset us := by rw [htaken]; rfl
    have hwbody : w.loader.state = .body := by rw [htaken]; exact hstate
    have hwheader : w.loader.header = s.loader.header := by rw [htaken]; rfl
    have hgen : headerGeneration s.loader.header =
        if w.loader.state = .body then headerGeneration w.loader.header else 0 := by
      rw [hwbody, hwheader]
      rfl
    have hfails {reason : ParseReason} (h : exec (.accessComplete md us) s = .next (w.loadFailed reason))
        (hacc : s.accounted) : ∃ st : LineStore, k.tableReleased st (s.table .staged) ∧
          exec (.accessComplete md us) s = .next (w.parseFailed st reason (headerGeneration s.loader.header)) := by
      rw [hk]
      exact exists_parseFailed h hwtable hwstore hgen hacc
    have hmalformed (hlen : ¬ p.length < 8) (hf : parseFixed p = none) :
        exec (.accessComplete md us) s = .next (w.loadFailed .badRecord) := by
      rw [hexec, State.loaderWord_body_malformed (s := s.freePort.upset us) hstate (hp.symm ▸ hlen) (hp.symm ▸ hf), htaken]
    have hfixed {f : FixedPart} (hf : parseFixed p = some f) : exec (.accessComplete md us) s =
        .next (if p.length < f.recordLength then w.loaderRequest else w.recordRead p) := by
      have hlen := (parseFixed_eq_some_iff.mp hf).long
      rw [hexec, State.loaderWord_body_fixed (s := s.freePort.upset us) hstate (f := f)
        (hp.symm ▸ Nat.not_lt.mpr hlen) (hp.symm ▸ hf), htaken, hp]
    refine ⟨fun h => ?more, fun h hacc => ?bad, fun r hwf hbytes => ?whole⟩
    case more =>
      by_cases hshort : p.length < 8
      · rw [hexec, State.loaderWord_body_short (s := s.freePort.upset us) hstate (hp.symm ▸ hshort), htaken]
        rfl
      · obtain ⟨r, hwf, htake, hlt⟩ := h.resolve_left hshort
        rw [hfixed (parseFixed_of_take hwf htake), if_pos (EntryRecord.bytes_length hwf ▸ hlt)]
        rfl
    case bad =>
      obtain ⟨hlen, hnone⟩ | ⟨⟨r, hwf, htake, hlen⟩, hnone⟩ := h
      · exact hfails (hmalformed (by omega) (parseFixed_eq_none hlen hnone)) hacc
      · have hread : exec (.accessComplete md us) s = .next (w.recordRead p) := by
          rw [hfixed (parseFixed_of_take hwf htake), if_neg]
          rw [hlen, EntryRecord.bytes_length hwf]
          exact Nat.lt_irrefl _
        rw [State.recordRead_of_malformed (parseRecord_eq_none fun r hr he => hnone r hr he.symm)] at hread
        exact hfails hread hacc
    case whole =>
      have hparse : parseRecord p = some r := hbytes ▸ parseRecord_bytes hwf
      have hread : exec (.accessComplete md us) s = .next (w.recordRead p) := by
        rw [hfixed (parseFixed_of_take hwf (by rw [hbytes])), if_neg]
        rw [hbytes, EntryRecord.bytes_length hwf]
        exact Nat.lt_irrefl _
      refine ⟨fun hpresent hacc => ?_, fun habsent i hi hlow => ⟨fun mask data hb hnil hacc => ?_,
        fun l st fl hline w' hw' => ?_⟩⟩
      · have hfind : (w.table .staged).find r.line ≠ none := by
          obtain ⟨j, e, hj, hline⟩ := hpresent
          exact fun hn => Table.find_eq_none_iff.mp hn j e (hwtable ▸ hj) hline
        rw [State.recordRead_of_present hparse hfind] at hread
        exact hfails hread hacc
      all_goals
        have hfind : (w.table .staged).find r.line = none := by
          rw [hwtable]
          exact Table.find_eq_none_iff.mpr habsent
        have hfree : (w.table .staged).lowestFree = some i := by
          rw [hwtable]
          exact Table.lowestFree_eq_some_iff.mpr ⟨hi, hlow⟩
      · rw [State.recordRead_noLine hparse hfind hfree hb (hwstore.trans hk.symm ▸ hnil)] at hread
        exact hfails hread hacc
      · have hwk : w.store = k := hwstore.trans hk.symm
        have hnext : exec (.accessComplete md us) s = .next w'.nextRecord := by
          rw [hread, State.recordRead_placed hparse hfind hfree (hwk ▸ hline), hw', hwtable, hbytes, htaken]
          rfl
        have hremaining : w'.loader.remaining = s.loader.remaining - 1 := by rw [hw']; rfl
        have hstate' : w'.loader.state = .body := by rw [hw']; exact hwbody
        refine ⟨fun htwo => ?_, fun hone => ?_⟩
        · rw [hnext, State.nextRecord_of_ne (by omega)]
          rfl
        · rw [hnext, State.nextRecord_of_zero (by omega)]
          exact State.bodyEnds_endOfBody hstate'

end Sys2Proof.Machine
end

section
/-! PROOF. Select periods byte by byte: what the bytes of a period bring at the out side, and where its request is
decided. -/

namespace Sys2Proof.Machine

open Sys2Proof

set_option Elab.async false

/-! ### What the bytes so far leave undecided (R163, R164) -/

/-- More bytes of a period leave open what all its bytes leave open. -/
theorem undecidedBytes_of_append {a b : List Byte} (h : undecidedBytes (a ++ b)) : undecidedBytes a := by
  cases a with
  | nil => exact .inl rfl
  | cons x a =>
    refine h.imp id fun ⟨hx, hlen⟩ => ⟨hx, ?_⟩
    by_cases hshort : (x :: a).length < 4
    · exact .inl hshort
    · rw [byteAt_append_left b (by omega), List.length_append] at hlen
      exact .inr (by omega)

/-- A request frame that is not yet complete. -/
theorem readPeriod_cut {bs : List Byte} (hfirst : bs.head? = some 0xA5)
    (h : bs.length < 4 ∨ ((byteAt bs 3).toNat ≤ 56 ∧ bs.length < 6 + (byteAt bs 3).toNat)) :
    readPeriod bs = .incomplete (byteAt bs 1) := by
  obtain ⟨bs, rfl⟩ := List.head?_eq_some_iff.mp hfirst
  by_cases hshort : (0xA5 :: bs : List Byte).length < 4
  · exact if_pos hshort
  · obtain ⟨h56, hpart⟩ := h.resolve_left hshort
    exact (if_neg hshort).trans ((if_neg (Nat.not_lt.mpr h56)).trans (if_pos hpart))

/-- What the port reads in the bytes of a period that leave its request undecided. -/
theorem readPeriod_of_undecided {bs : List Byte} (h : undecidedBytes bs) :
    readPeriod bs = .nothing ∨ readPeriod bs = .poll ∨ readPeriod bs = .incomplete (byteAt bs 1) := by
  cases bs with
  | nil => exact .inl rfl
  | cons b bs =>
    obtain hzero | ⟨hfirst, hlen⟩ := h
    · exact .inr (.inl (if_pos hzero))
    · exact .inr (.inr (readPeriod_cut (congrArg some hfirst) hlen))

theorem readPeriod_badFirst {b : Byte} (bs : List Byte) (h : b ≠ 0) (h' : b ≠ 0xA5) :
    readPeriod (b :: bs) = .malformed 0 := (if_neg h).trans (if_pos h')

section
variable {bs : List Byte} (hfirst : bs.head? = some 0xA5) (h4 : ¬ bs.length < 4)

include hfirst h4

theorem readPeriod_tooLong (h : 56 < (byteAt bs 3).toNat) : readPeriod bs = .malformed (byteAt bs 1) := by
  obtain ⟨bs, rfl⟩ := List.head?_eq_some_iff.mp hfirst
  exact (if_neg h4).trans (if_pos h)

theorem readPeriod_whole (h : ¬ 56 < (byteAt bs 3).toNat) (h' : ¬ bs.length < 6 + (byteAt bs 3).toNat) :
    readPeriod bs = .whole ⟨byteAt bs 1, byteAt bs 2, (bs.drop 4).take (byteAt bs 3).toNat⟩
      (field bs (4 + (byteAt bs 3).toNat) 2 == (crc16 ((bs.drop 1).take (3 + (byteAt bs 3).toNat))).toNat) := by
  obtain ⟨bs, rfl⟩ := List.head?_eq_some_iff.mp hfirst
  exact (if_neg h4).trans ((if_neg h).trans (if_neg h'))

end

/-- What the port reads in bytes that decide: a malformed request or a whole frame. -/
theorem readPeriod_of_decided {bs : List Byte} (h : ¬ undecidedBytes bs) :
    (∃ tag, readPeriod bs = .malformed tag) ∨ ∃ c crcOk, readPeriod bs = .whole c crcOk := by
  obtain ⟨hzero, hrest⟩ := not_or.mp h
  cases bs with
  | nil => exact absurd rfl hzero
  | cons b bs =>
    by_cases hb : b = 0xA5
    · have hfirst : (b :: bs).head? = some 0xA5 := congrArg some hb
      obtain ⟨hlong, hpart⟩ := not_or.mp fun hl => hrest ⟨hb, hl⟩
      by_cases h56 : 56 < (byteAt (b :: bs) 3).toNat
      · exact .inl ⟨_, readPeriod_tooLong hfirst hlong h56⟩
      · exact .inr ⟨_, _, readPeriod_whole hfirst hlong h56 (not_and.mp hpart (Nat.not_lt.mp h56))⟩
    · exact .inl ⟨0, readPeriod_badFirst bs hzero hb⟩

theorem not_undecidedBytes_of_malformed {bs : List Byte} {tag : Byte} (h : readPeriod bs = .malformed tag) :
    ¬ undecidedBytes bs := by
  intro hu
  obtain hr | hr | hr := readPeriod_of_undecided hu <;> rw [h] at hr <;> cases hr

theorem not_undecidedBytes_of_whole {bs : List Byte} {c : QueuedCommand} {crcOk : Bool}
    (h : readPeriod bs = .whole c crcOk) : ¬ undecidedBytes bs := by
  intro hu
  obtain hr | hr | hr := readPeriod_of_undecided hu <;> rw [h] at hr <;> cases hr

/-! ### The out side of the port (R166, R167) -/

/-- The out side of a period is as the bytes so far have brought it. -/
def ServicePort.streams (p : ServicePort) : Prop :=
  ∀ o ∈ p.out, o.headerSent = decide (4 ≤ p.shifter.length) ∧
    (o.live = true → ∃ r, o.response = some r ∧ p.responses.head? = some r ∧ p.shifter.length < 10 + r.payload.length)

/-- The port once the period's request has been decided. -/
def ServicePort.judged (p : ServicePort) (commands : List QueuedCommand) (v : Verdict) (tag : Byte) : ServicePort :=
  { p with commands := commands, lastVerdict := v, lastTag := tag, decided := true }

/-- The port once the bytes `all` of the period have been clocked and decided nothing. -/
def ServicePort.clockedTo (p : ServicePort) (all : List Byte) : ServicePort :=
  { p.clockedOut all.length with shifter := all }

/-- The state once the bytes `all` of the period have been clocked and decided nothing. -/
def State.clockedTo (s : State) (all : List Byte) : State := { s with svp := s.svp.clockedTo all }

section
variable (p : ServicePort) (n : Nat) (all : List Byte)

@[simp] theorem ServicePort.clockedOut_ssLow : (p.clockedOut n).ssLow = p.ssLow := by
  unfold ServicePort.clockedOut
  split <;> rfl

@[simp] theorem ServicePort.clockedOut_ignoring : (p.clockedOut n).ignoring = p.ignoring := by
  unfold ServicePort.clockedOut
  split <;> rfl

@[simp] theorem ServicePort.clockedOut_decided : (p.clockedOut n).decided = p.decided := by
  unfold ServicePort.clockedOut
  split <;> rfl

@[simp] theorem ServicePort.clockedOut_commands : (p.clockedOut n).commands = p.commands := by
  unfold ServicePort.clockedOut
  split <;> rfl

@[simp] theorem ServicePort.clockedOut_executing : (p.clockedOut n).executing = p.executing := by
  unfold ServicePort.clockedOut
  split <;> rfl

@[simp] theorem ServicePort.clockedOut_shifter : (p.clockedOut n).shifter = p.shifter := by
  unfold ServicePort.clockedOut
  split <;> rfl

@[simp] theorem ServicePort.clockedOut_lastVerdict : (p.clockedOut n).lastVerdict = p.lastVerdict := by
  unfold ServicePort.clockedOut
  split <;> rfl

@[simp] theorem ServicePort.clockedOut_lastTag : (p.clockedOut n).lastTag = p.lastTag := by
  unfold ServicePort.clockedOut
  split <;> rfl

theorem ServicePort.clockedOut_judged (cs : List QueuedCommand) (v : Verdict) (tag : Byte) :
    (p.judged cs v tag).clockedOut n = (p.clockedOut n).judged cs v tag := by
  cases h : p.out <;> simp only [ServicePort.clockedOut, ServicePort.judged, h]

theorem ServicePort.clockedOut_withShifter :
    ServicePort.clockedOut { p with shifter := all } n = { p.clockedOut n with shifter := all } := by
  cases h : p.out <;> simp only [ServicePort.clockedOut, h]

/-- Clocking goes on from where the bytes before have brought the out side. -/
theorem ServicePort.clockedOut_clockedOut {m : Nat} (h : m ≤ n) : (p.clockedOut m).clockedOut n = p.clockedOut n := by
  cases ho : p.out with
  | none => simp only [ServicePort.clockedOut, ho]
  | some o =>
    have hsent : decide (4 ≤ m) = true → decide (4 ≤ n) = true := by simpa using fun h4 => Nat.le_trans h4 h
    have hgone : (o.response.any fun r => decide (10 + r.payload.length ≤ m)) = true →
        (o.response.any fun r => decide (10 + r.payload.length ≤ n)) = true := by
      cases o.response with
      | none => exact id
      | some r => simpa using fun hm => Nat.le_trans hm h
    simp only [ServicePort.clockedOut, ho]
    generalize decide (4 ≤ m) = fm at *
    generalize decide (4 ≤ n) = fn at *
    generalize (o.response.any fun r => decide (10 + r.payload.length ≤ m)) = gm at *
    generalize (o.response.any fun r => decide (10 + r.payload.length ≤ n)) = gn at *
    cases hl : o.live <;> cases gm <;> cases fm <;> simp_all

end

theorem ServicePort.clockedTo_clockedTo (p : ServicePort) (pre more : List Byte) :
    (p.clockedTo pre).clockedTo (pre ++ more) = p.clockedTo (pre ++ more) := by
  unfold ServicePort.clockedTo
  rw [ServicePort.clockedOut_withShifter, ServicePort.clockedOut_clockedOut _ _ (by simp)]

@[simp] theorem ServicePort.clockedTo_commands (p : ServicePort) (all : List Byte) :
    (p.clockedTo all).commands = p.commands := p.clockedOut_commands _

theorem ServicePort.clockedTo_judged (p : ServicePort) (all : List Byte) (cs : List QueuedCommand) (v : Verdict)
    (tag : Byte) : (p.judged cs v tag).clockedTo all = (p.clockedTo all).judged cs v tag := by
  unfold ServicePort.clockedTo
  rw [ServicePort.clockedOut_judged]
  rfl

section
variable {p : ServicePort}

theorem ServicePort.streams.judged (h : p.streams) (cs : List QueuedCommand) (v : Verdict) (tag : Byte) :
    (p.judged cs v tag).streams := h

/-- No byte, no change. -/
theorem ServicePort.streams.clockedOut_self (h : p.streams) : p.clockedOut p.shifter.length = p := by
  unfold ServicePort.clockedOut
  cases ho : p.out with
  | none => rfl
  | some o =>
    obtain ⟨hsent, hlive⟩ := h o ho
    have hgone : (o.live && o.response.any fun r => decide (10 + r.payload.length ≤ p.shifter.length)) = false := by
      cases hl : o.live with
      | false => rfl
      | true =>
        obtain ⟨r, hr, -, hlt⟩ := hlive hl
        simp only [hr, Option.any_some, Bool.true_and, decide_eq_false_iff_not]
        omega
    simp only [hgone, ← hsent, Bool.or_self, Bool.and_assoc, Bool.not_and_self, Bool.and_false, Bool.not_false,
      Bool.and_true, Bool.false_eq_true, if_false, ← ho]

/-- The out side stays in step with the bytes. -/
theorem ServicePort.streams.clockedTo (h : p.streams) {all : List Byte} (hall : p.shifter.length ≤ all.length) :
    (p.clockedTo all).streams := by
  intro o' ho'
  cases ho : p.out with
  | none =>
    have hnone : (p.clockedTo all).out = none := by simp only [ServicePort.clockedTo, ServicePort.clockedOut, ho]
    exact absurd (hnone.symm.trans ho') nofun
  | some o =>
    obtain ⟨hsent, hlive⟩ := h o ho
    simp only [ServicePort.clockedTo, ServicePort.clockedOut, ho, Option.mem_def, Option.some.injEq] at ho'
    subst ho'
    refine ⟨?_, fun hl => ?_⟩
    · show (o.headerSent || decide (4 ≤ all.length)) = decide (4 ≤ all.length)
      rw [hsent]
      simp only [Bool.or_eq_right_iff_imp, decide_eq_true_eq]
      omega
    · simp only [Bool.and_eq_true, Bool.not_eq_true'] at hl
      obtain ⟨hl, hgone⟩ := hl
      obtain ⟨r, hr, hhead, -⟩ := hlive hl
      refine ⟨r, hr, ?_, ?_⟩
      · simpa only [ServicePort.clockedTo, ServicePort.clockedOut, ho, hgone, Bool.false_eq_true, if_false] using hhead
      · simp only [hl, hr, Option.any_some, Bool.true_and, decide_eq_false_iff_not] at hgone
        exact Nat.not_le.mp hgone

end

variable {s : State} {b : Byte}

theorem State.clockedTo_clockedTo (s : State) (pre more : List Byte) :
    (s.clockedTo pre).clockedTo (pre ++ more) = s.clockedTo (pre ++ more) := by
  unfold State.clockedTo
  rw [ServicePort.clockedTo_clockedTo]

theorem State.clockedTo_self (h : s.svp.streams) : s.clockedTo s.svp.shifter = s := by
  unfold State.clockedTo ServicePort.clockedTo
  rw [h.clockedOut_self]

/-- The port at the next byte, before a response that this byte ends has left. -/
def ServicePort.headerAt (p : ServicePort) (b : Byte) : ServicePort :=
  match p.out with
  | none => { p with shifter := p.shifter ++ [b] }
  | some o =>
    { p with
      shifter := p.shifter ++ [b]
      out := some { o with headerSent := o.headerSent || decide (4 ≤ p.shifter.length + 1) }
      resetSeen := p.resetSeen && !(o.header.resetSeen && !o.headerSent && decide (4 ≤ p.shifter.length + 1)) }

theorem State.headerOut_shiftIn (s : State) (b : Byte) : (s.shiftIn b).headerOut = { s with svp := s.svp.headerAt b } := by
  unfold State.headerOut ServicePort.headerAt State.shiftIn
  cases ho : s.svp.out with
  | none => simp only [ho]
  | some o =>
    obtain ⟨header, response, sent, live⟩ := o
    simp only [List.length_append, List.length_singleton]
    cases sent with
    | true => simp [ho]
    | false =>
      by_cases h4 : 4 ≤ s.svp.shifter.length + 1
      · rw [if_pos ⟨h4, rfl⟩]
        cases hr : header.resetSeen <;> simp [h4]
      · rw [if_neg (fun h => h4 h.1)]
        simp [h4, ho]

/-- The header's last byte and the response's last byte are where the statements have them. -/
theorem State.responseOut_headerAt (s : State) (b : Byte) :
    State.responseOut { s with svp := s.svp.headerAt b } = s.clockedTo (s.svp.shifter ++ [b]) := by
  unfold State.responseOut ServicePort.responseEnds State.clockedTo ServicePort.clockedTo ServicePort.clockedOut
    ServicePort.headerAt Response.lastByte
  cases ho : s.svp.out with
  | none => simp only [ho, Bool.false_eq_true, if_false]
  | some o =>
    simp only [List.length_append, List.length_singleton]
    cases hgone : (o.live && o.response.any fun r => decide (10 + r.payload.length ≤ s.svp.shifter.length + 1)) with
    | true => simp only [if_true, Option.map_some, Bool.not_true, Bool.and_false]
    | false => simp only [Bool.false_eq_true, if_false, Bool.not_false, Bool.and_true]

/-! ### One byte (R162 to R167) -/

/-- A byte that leaves the request open brings the out side on, and nothing else. -/
theorem State.decideByte_of_open (h : s.svp.decided = true ∨ undecidedBytes s.svp.shifter) : s.decideByte = s := by
  unfold State.decideByte
  cases hd : s.svp.decided with
  | true => rfl
  | false =>
    have hopen := h.resolve_left (by simp [hd])
    obtain hr | hr | hr := readPeriod_of_undecided hopen <;> rw [hr] <;> rfl

theorem ServicePort.frameEnds_of_open {p : ServicePort} (h : p.decided = true ∨ undecidedBytes p.shifter) :
    p.frameEnds = false := by
  unfold ServicePort.frameEnds
  cases hd : p.decided with
  | true => rfl
  | false =>
    have hopen := h.resolve_left (by simp [hd])
    obtain hr | hr | hr := readPeriod_of_undecided hopen <;> rw [hr] <;> rfl

@[simp] theorem ServicePort.headerAt_shifter (p : ServicePort) (b : Byte) :
    (p.headerAt b).shifter = p.shifter ++ [b] := by
  unfold ServicePort.headerAt
  split <;> rfl

@[simp] theorem ServicePort.headerAt_decided (p : ServicePort) (b : Byte) : (p.headerAt b).decided = p.decided := by
  unfold ServicePort.headerAt
  split <;> rfl

@[simp] theorem ServicePort.headerAt_commands (p : ServicePort) (b : Byte) : (p.headerAt b).commands = p.commands := by
  unfold ServicePort.headerAt
  split <;> rfl

@[simp] theorem ServicePort.headerAt_executing (p : ServicePort) (b : Byte) :
    (p.headerAt b).executing = p.executing := by
  unfold ServicePort.headerAt
  split <;> rfl

@[simp] theorem ServicePort.headerAt_responses (p : ServicePort) (b : Byte) :
    (p.headerAt b).responses = p.responses := by
  unfold ServicePort.headerAt
  split <;> rfl

/-- A byte that does not end a frame that passes its tests: first the out side, then the request (R163 to R167). -/
theorem State.clockByte_of_not_frameEnds (h : (s.svp.headerAt b).frameEnds = false) :
    s.clockByte b = (s.clockedTo (s.svp.shifter ++ [b])).decideByte := by
  unfold State.clockByte
  rw [State.headerOut_shiftIn]
  refine (if_neg ?_).trans (congrArg State.decideByte (s.responseOut_headerAt b))
  rw [h]
  exact Bool.false_ne_true

theorem State.clockByte_of_open (h : s.svp.decided = true ∨ undecidedBytes (s.svp.shifter ++ [b])) :
    s.clockByte b = s.clockedTo (s.svp.shifter ++ [b]) := by
  rw [State.clockByte_of_not_frameEnds (ServicePort.frameEnds_of_open (by simpa using h))]
  exact State.decideByte_of_open (h.imp (fun hd => (ServicePort.clockedOut_decided _ _).trans hd) id)

/-- A byte at which the request is malformed, or a whole frame fails its CRC test (R164). -/
theorem State.clockByte_refused (hd : s.svp.decided = false) {v : Verdict} {tag : Byte}
    (h : (readPeriod (s.svp.shifter ++ [b]) = .malformed tag ∧ v = .refusedFormat) ∨
      ∃ c, readPeriod (s.svp.shifter ++ [b]) = .whole c false ∧ v = .refusedCrc ∧ tag = c.tag) :
    s.clockByte b = State.raise
      { s with svp := (s.svp.clockedTo (s.svp.shifter ++ [b])).judged s.svp.commands v tag }
      .frameError (detailBytes v.code tag 0) := by
  have hframe : (s.svp.headerAt b).frameEnds = false := by
    unfold ServicePort.frameEnds
    obtain ⟨h, -⟩ | ⟨c, h, -⟩ := h <;> simp [h, hd]
  have hout : (s.clockedTo (s.svp.shifter ++ [b])).svp.decided = false := (ServicePort.clockedOut_decided _ _).trans hd
  have hcommands : (s.svp.clockedTo (s.svp.shifter ++ [b])).commands = s.svp.commands :=
    ServicePort.clockedOut_commands _ _
  rw [State.clockByte_of_not_frameEnds hframe, State.decideByte, hout, ← hcommands]
  obtain ⟨h, rfl⟩ | ⟨c, h, rfl, rfl⟩ := h
  · have hread : readPeriod (s.clockedTo (s.svp.shifter ++ [b])).svp.shifter = .malformed tag := h
    rw [hread]
    rfl
  · have hread : readPeriod (s.clockedTo (s.svp.shifter ++ [b])).svp.shifter = .whole c false := h
    rw [hread]
    rfl

/-- The port once the frame of a command has been decided, with room for it or without (R165). -/
def ServicePort.received (p : ServicePort) (room : Bool) (c : QueuedCommand) : ServicePort :=
  if room then p.judged (p.commands ++ [c]) .accepted c.tag else p.judged p.commands .refusedFull c.tag

theorem ServicePort.received_eq (p : ServicePort) (room : Bool) (c : QueuedCommand) : p.received room c =
    p.judged (if room then p.commands ++ [c] else p.commands) (if room then .accepted else .refusedFull) c.tag := by
  cases room <;> rfl

theorem State.acceptFrame_eq (s : State) (c : QueuedCommand) :
    s.acceptFrame c = { s with svp := s.svp.received s.svp.hasRoom c } := by
  unfold State.acceptFrame ServicePort.received
  split <;> rfl

theorem State.decideByte_of_frame (hd : s.svp.decided = false) {c : QueuedCommand}
    (h : readPeriod s.svp.shifter = .whole c true) :
    s.decideByte = { s with svp := s.svp.received s.svp.hasRoom c } := by
  unfold State.decideByte
  rw [hd, h]
  exact s.acceptFrame_eq c

theorem State.responseOut_choices (s : State) (k : Nat) :
    State.responseOut { s with orderChoices := k } = { s.responseOut with orderChoices := k } := by
  unfold State.responseOut
  split <;> rfl

theorem State.responseOut_received (s : State) (room : Bool) (c : QueuedCommand) :
    State.responseOut { s with svp := s.svp.received room c } =
      { s.responseOut with svp := s.responseOut.svp.received room c } := by
  have hends : (s.svp.received room c).responseEnds = s.svp.responseEnds := by cases room <;> rfl
  unfold State.responseOut
  simp only [hends]
  cases s.svp.responseEnds <;> cases room <;> rfl

/-- A frame is decided behind the response that leaves at its last byte or before. -/
theorem State.decideByte_clockedTo (hd : s.svp.decided = false) {c : QueuedCommand} {all : List Byte}
    (h : readPeriod all = .whole c true) (k : Nat) :
    State.decideByte { s.clockedTo all with orderChoices := k } =
      { s with
        orderChoices := k
        svp := (s.svp.clockedTo all).received (s.svp.clockedTo all).hasRoom c } :=
  State.decideByte_of_frame (s := { s.clockedTo all with orderChoices := k })
    ((ServicePort.clockedOut_decided _ _).trans hd) h

/-- A byte that ends a frame that passes its tests: the response that this byte ends has left, or still counts (R165,
R167, log 11). -/
theorem State.clockByte_frame (hd : s.svp.decided = false) {c : QueuedCommand}
    (h : readPeriod (s.svp.shifter ++ [b]) = .whole c true) :
    ∃ choices room, s.clockByte b =
      { s with orderChoices := choices, svp := (s.svp.clockedTo (s.svp.shifter ++ [b])).received room c } ∧
      ((room = (s.svp.clockedTo (s.svp.shifter ++ [b])).hasRoom ∧
          ((s.svp.headerAt b).responseEnds = false → choices = s.orderChoices)) ∨
        (room = s.svp.hasRoom ∧ (s.svp.headerAt b).responseEnds = true)) := by
  have hframe : (s.svp.headerAt b).frameEnds = true := by simp [ServicePort.frameEnds, h, hd]
  unfold State.clockByte
  rw [State.headerOut_shiftIn]
  simp only [hframe, Bool.true_and]
  cases hends : (s.svp.headerAt b).responseEnds with
  | false =>
    refine ⟨s.orderChoices, _, ?_, .inl ⟨rfl, fun _ => rfl⟩⟩
    rw [State.responseOut_headerAt]
    exact State.decideByte_clockedTo hd h s.orderChoices
  | true =>
    cases hfirst : Config.responseFirst s.orderChoices with
    | true =>
      refine ⟨s.orderChoices + 1, _, ?_, .inl ⟨rfl, nofun⟩⟩
      rw [if_pos rfl, if_pos rfl, State.responseOut_choices { s with svp := s.svp.headerAt b }, State.responseOut_headerAt]
      exact State.decideByte_clockedTo hd h (s.orderChoices + 1)
    | false =>
      refine ⟨s.orderChoices + 1, s.svp.hasRoom, ?_, .inr ⟨rfl, rfl⟩⟩
      have hroom : (s.svp.headerAt b).hasRoom = s.svp.hasRoom := by
        simp only [ServicePort.hasRoom, ServicePort.headerAt_commands, ServicePort.headerAt_responses,
          ServicePort.headerAt_executing]
      have hdecide : State.decideByte { s with svp := s.svp.headerAt b, orderChoices := s.orderChoices + 1 } =
          { s with svp := (s.svp.headerAt b).received s.svp.hasRoom c, orderChoices := s.orderChoices + 1 } := by
        rw [State.decideByte_of_frame (c := c) (by simpa using hd) (by simpa using h)]
        simp only [hroom]
      rw [if_pos rfl, if_neg Bool.false_ne_true, hdecide,
        State.responseOut_received { s with svp := s.svp.headerAt b, orderChoices := s.orderChoices + 1 },
        State.responseOut_choices { s with svp := s.svp.headerAt b }, State.responseOut_headerAt]
      rfl

/-! ### Several bytes (R162 to R167) -/

/-- Bytes that leave the request open bring the out side on, and nothing else. -/
theorem State.clock_of_open {s : State} (hst : s.svp.streams) (bs : List Byte)
    (h : s.svp.decided = true ∨ undecidedBytes (s.svp.shifter ++ bs)) :
    s.clock bs = s.clockedTo (s.svp.shifter ++ bs) := by
  induction bs generalizing s with
  | nil =>
    rw [List.append_nil, State.clockedTo_self hst]
    rfl
  | cons b bs ih =>
    rw [List.append_cons] at h
    have hb := State.clockByte_of_open (h.imp id undecidedBytes_of_append)
    calc s.clock (b :: bs) = (s.clockByte b).clock bs := rfl
      _ = (s.clockedTo (s.svp.shifter ++ [b])).clock bs := by rw [hb]
      _ = (s.clockedTo (s.svp.shifter ++ [b])).clockedTo ((s.svp.shifter ++ [b]) ++ bs) :=
        ih (hst.clockedTo (by simp)) (h.imp (fun hd => (ServicePort.clockedOut_decided _ _).trans hd) id)
      _ = s.clockedTo (s.svp.shifter ++ b :: bs) := by
        rw [State.clockedTo_clockedTo, List.append_cons _ b bs]

section
variable {s : State} {bs pre fill : List Byte} {b : Byte}

/-- Bytes that decide the request do it at one byte: those before leave it open, and those behind are fill. -/
theorem State.clock_of_deciding (hst : s.svp.streams) (hopen : undecidedBytes s.svp.shifter)
    (hall : s.svp.shifter ++ bs = (pre ++ [b]) ++ fill) (hpre : undecidedBytes pre)
    (hdec : ¬ undecidedBytes (pre ++ [b])) :
    s.svp.shifter.length ≤ pre.length ∧ s.clock bs = ((s.clockedTo pre).clockByte b).clock fill := by
  have hlen : s.svp.shifter.length ≤ pre.length := by
    by_contra hlong
    have hprefix : pre ++ [b] <+: s.svp.shifter :=
      List.prefix_of_prefix_length_le ⟨fill, hall.symm⟩ ⟨bs, rfl⟩ (by simp; omega)
    obtain ⟨more, hmore⟩ := hprefix
    exact hdec (undecidedBytes_of_append (hmore ▸ hopen))
  obtain ⟨mid, rfl⟩ : s.svp.shifter <+: pre :=
    List.prefix_of_prefix_length_le ⟨bs, rfl⟩ ⟨[b] ++ fill, by rw [hall, List.append_assoc]⟩ hlen
  have hbs : bs = mid ++ ([b] ++ fill) := by simpa using hall
  refine ⟨hlen, ?_⟩
  rw [hbs, State.clock_append, State.clock_of_open hst mid (.inr hpre)]
  rfl

/-- The bytes behind the deciding one are fill: they bring the out side on (R163). -/
theorem State.clock_judged {t : State} {p : ServicePort} {cs : List QueuedCommand} {v : Verdict} {tag : Byte}
    (ht : t.svp = (p.clockedTo pre).judged cs v tag) (hp : p.streams) (hpre : p.shifter.length ≤ pre.length)
    (fill : List Byte) : t.clock fill = { t with svp := (p.clockedTo (pre ++ fill)).judged cs v tag } := by
  have hst : t.svp.streams := ht ▸ (hp.clockedTo hpre).judged cs v tag
  have hshift : t.svp.shifter = pre := by rw [ht]; rfl
  have hd : t.svp.decided = true := by rw [ht]; rfl
  rw [State.clock_of_open hst fill (.inl hd), hshift, State.clockedTo, ht, ServicePort.clockedTo_judged,
    ServicePort.clockedTo_clockedTo]

/-- A period that is malformed at a byte, or whose frame fails its CRC test there (R164). -/
theorem State.clock_refused (hst : s.svp.streams) (hd : s.svp.decided = false) (hopen : undecidedBytes s.svp.shifter)
    (hall : s.svp.shifter ++ bs = (pre ++ [b]) ++ fill) (hpre : undecidedBytes pre) {v : Verdict} {tag : Byte}
    (h : (readPeriod (pre ++ [b]) = .malformed tag ∧ v = .refusedFormat) ∨
      ∃ c, readPeriod (pre ++ [b]) = .whole c false ∧ v = .refusedCrc ∧ tag = c.tag) :
    s.clock bs = State.raise
      { s with svp := (s.svp.clockedTo (s.svp.shifter ++ bs)).judged s.svp.commands v tag }
      .frameError (detailBytes v.code tag 0) := by
  have hdec : ¬ undecidedBytes (pre ++ [b]) := by
    obtain ⟨h, -⟩ | ⟨c, h, -⟩ := h
    · exact not_undecidedBytes_of_malformed h
    · exact not_undecidedBytes_of_whole h
  obtain ⟨hlen, hclock⟩ := State.clock_of_deciding hst hopen hall hpre hdec
  have hd' : (s.clockedTo pre).svp.decided = false := (ServicePort.clockedOut_decided _ _).trans hd
  have hcommands : (s.clockedTo pre).svp.commands = s.svp.commands := ServicePort.clockedOut_commands _ _
  have hbyte : (s.clockedTo pre).clockByte b = State.raise
      { s with svp := (s.svp.clockedTo (pre ++ [b])).judged s.svp.commands v tag }
      .frameError (detailBytes v.code tag 0) := by
    rw [State.clockByte_refused hd' h, hcommands]
    show State.raise { s with svp := ((s.svp.clockedTo pre).clockedTo (pre ++ [b])).judged s.svp.commands v tag } _ _ = _
    rw [ServicePort.clockedTo_clockedTo]
  rw [hclock, hbyte, State.clock_judged (p := s.svp) (pre := pre ++ [b]) rfl hst (by simp; omega), ← hall]
  rfl

/-- No response leaves at a byte that is the last one of none. -/
theorem ServicePort.responseEnds_headerAt {p : ServicePort} (hst : p.streams) (hlen : p.shifter.length ≤ pre.length)
    (h : ∀ o ∈ p.out, ∀ r, o.response = some r → o.live = true → 10 + r.payload.length ≠ pre.length + 1) :
    ((p.clockedTo pre).headerAt b).responseEnds = false := by
  cases ho : p.out with
  | none => simp only [ServicePort.responseEnds, ServicePort.headerAt, ServicePort.clockedTo, ServicePort.clockedOut, ho]
  | some o =>
    have hst' := hst.clockedTo hlen
    simp only [ServicePort.streams, ServicePort.clockedTo, ServicePort.clockedOut, ho, Option.mem_def,
      Option.some.injEq, forall_eq'] at hst'
    simp only [ServicePort.responseEnds, ServicePort.headerAt, ServicePort.clockedTo, ServicePort.clockedOut, ho,
      List.length_append, List.length_singleton, Response.lastByte]
    rw [Bool.and_eq_false_imp]
    intro hlive
    obtain ⟨r, hr, -, hlt⟩ := hst'.2 hlive
    have hapart := h o ho r hr (Bool.and_eq_true _ _ ▸ hlive).1
    simp only [hr, Option.any_some, decide_eq_false_iff_not]
    omega

/-- A period whose frame passes its tests at a byte (R165). -/
theorem State.clock_received (hst : s.svp.streams) (hd : s.svp.decided = false) (hopen : undecidedBytes s.svp.shifter)
    (hall : s.svp.shifter ++ bs = (pre ++ [b]) ++ fill) (hpre : undecidedBytes pre) {c : QueuedCommand}
    (h : readPeriod (pre ++ [b]) = .whole c true) :
    ∃ choices counted room, s.clock bs =
        { s with orderChoices := choices, svp := (s.svp.clockedTo (s.svp.shifter ++ bs)).received room c } ∧
      (counted = pre.length ∨ counted = pre.length + 1) ∧ room = (s.svp.clockedOut counted).hasRoom ∧
      ((∀ o ∈ s.svp.out, ∀ r, o.response = some r → o.live = true → 10 + r.payload.length ≠ pre.length + 1) →
        choices = s.orderChoices) := by
  obtain ⟨hlen, hclock⟩ := State.clock_of_deciding hst hopen hall hpre (not_undecidedBytes_of_whole h)
  have hd' : (s.clockedTo pre).svp.decided = false := (ServicePort.clockedOut_decided _ _).trans hd
  obtain ⟨choices, room, hbyte, hroom⟩ := State.clockByte_frame hd' h
  have hto : (s.clockedTo pre).svp.clockedTo ((s.clockedTo pre).svp.shifter ++ [b]) = s.svp.clockedTo (pre ++ [b]) :=
    s.svp.clockedTo_clockedTo pre [b]
  have hafter : (s.svp.clockedTo (pre ++ [b])).hasRoom = (s.svp.clockedOut (pre.length + 1)).hasRoom := by
    rw [ServicePort.clockedTo, List.length_append]
    rfl
  rw [hto] at hbyte hroom
  have hfinal : s.clock bs =
      { s with orderChoices := choices, svp := (s.svp.clockedTo (s.svp.shifter ++ bs)).received room c } := by
    rw [hclock, hbyte, State.clock_judged (p := s.svp) (pre := pre ++ [b]) (ServicePort.received_eq _ room c) hst
      (by simp; omega), ← hall, ServicePort.received_eq (s.svp.clockedTo (s.svp.shifter ++ bs))]
    simp only [ServicePort.clockedTo_commands]
    rfl
  obtain ⟨hroom, hchoices⟩ | ⟨hroom, hends⟩ := hroom
  · exact ⟨choices, pre.length + 1, room, hfinal, .inr rfl, hroom.trans hafter, fun hapart =>
      hchoices (ServicePort.responseEnds_headerAt hst hlen hapart)⟩
  · exact ⟨choices, pre.length, room, hfinal, .inl rfl, hroom, fun hapart =>
      absurd ((ServicePort.responseEnds_headerAt hst hlen hapart).symm.trans hends) nofun⟩

end

/-! ### The bytes of a frame (R177) -/

/-- The bytes of a frame of command `c` up to its CRC. -/
def QueuedCommand.unsealed (c : QueuedCommand) : List Byte :=
  [0xA5, c.tag, c.code, BitVec.ofNat 8 c.payload.length] ++ c.payload

section
variable {c : QueuedCommand} (h : c.payload.length ≤ 56)

theorem QueuedCommand.unsealed_length (c : QueuedCommand) : c.unsealed.length = 4 + c.payload.length := by
  simp only [QueuedCommand.unsealed, List.length_append, List.length_cons, List.length_nil]

include h

theorem QueuedCommand.byteAt_unsealed (fill : List Byte) : (byteAt (c.unsealed ++ fill) 3).toNat = c.payload.length :=
  Nat.mod_eq_of_lt (by omega)

/-- A frame that still lacks its last byte leaves the request open. -/
theorem QueuedCommand.undecided_unsealed (x : Byte) : undecidedBytes (c.unsealed ++ [x]) := by
  refine .inr ⟨rfl, .inr ⟨by rw [c.byteAt_unsealed h]; exact h, ?_⟩⟩
  rw [c.byteAt_unsealed h, List.length_append, c.unsealed_length, List.length_singleton]
  omega

/-- A whole frame, with whatever two bytes stand in its CRC. -/
theorem readPeriod_unsealed (x y : Byte) : readPeriod (c.unsealed ++ [x, y]) =
    .whole c (x.toNat + 256 * y.toNat ==
      (crc16 ([c.tag, c.code, BitVec.ofNat 8 c.payload.length] ++ c.payload)).toNat) := by
  have hlen : (c.unsealed ++ [x, y]).length = 6 + c.payload.length := by
    rw [List.length_append, c.unsealed_length, List.length_cons, List.length_singleton]
    omega
  have hcrc : field (c.unsealed ++ [x, y]) (4 + c.payload.length) 2 = x.toNat + 256 * y.toNat := by
    rw [field_append _ _ 2 (4 + c.payload.length) 0 (by rw [c.unsealed_length]; omega)]
    rfl
  have hbody : ((c.unsealed ++ [x, y]).drop 1).take (3 + c.payload.length) =
      [c.tag, c.code, BitVec.ofNat 8 c.payload.length] ++ c.payload :=
    List.take_left' (l₁ := [c.tag, c.code, BitVec.ofNat 8 c.payload.length] ++ c.payload) (by simp; omega)
  have hpayload : ((c.unsealed ++ [x, y]).drop 4).take c.payload.length = c.payload := List.take_left
  have hn := c.byteAt_unsealed h [x, y]
  rw [readPeriod_whole rfl (by omega) (by omega) (by omega), hn, hpayload, hcrc, hbody]
  rfl

end

/-- The frame of a command is its bytes up to the CRC and the two bytes of the CRC. -/
theorem QueuedCommand.exists_frame (c : QueuedCommand) : ∃ x y : Byte, c.frame = c.unsealed ++ [x, y] ∧
    x.toNat + 256 * y.toNat = (crc16 ([c.tag, c.code, BitVec.ofNat 8 c.payload.length] ++ c.payload)).toNat := by
  exact ⟨_, _, rfl, (leNat_leBytes 2 _).trans (Nat.mod_eq_of_lt (BitVec.isLt _))⟩

/-! ### The rows of a select period -/

section
variable {s : State} (hs : s.inReset = false) (hlow : s.svp.ssLow = true)

include hs hlow

theorem State.portOpen_eq : s.portOpen = !s.svp.ignoring := by
  simp only [State.portOpen, hs, hlow, Bool.not_false, Bool.true_and]

theorem State.inPeriod_of_taken (hi : s.svp.ignoring = false) (bs : List Byte) : s.inPeriod bs = s.clock bs :=
  if_pos (by rw [State.portOpen_eq hs hlow, hi]; rfl)

theorem State.inPeriod_of_ignored (hi : s.svp.ignoring = true) (bs : List Byte) : s.inPeriod bs = s :=
  if_neg (by rw [State.portOpen_eq hs hlow, hi]; exact Bool.false_ne_true)

end

theorem State.headerOut_portOpen (s : State) : s.headerOut.portOpen = s.portOpen := by
  unfold State.headerOut
  split
  · rfl
  · split <;> rfl

theorem State.responseOut_portOpen (s : State) : s.responseOut.portOpen = s.portOpen := by
  unfold State.responseOut
  split <;> rfl

theorem State.decideByte_portOpen (s : State) : s.decideByte.portOpen = s.portOpen := by
  unfold State.decideByte
  split
  · rfl
  · split
    · rfl
    · rename_i c crcOk _
      cases crcOk with
      | true =>
        show (s.acceptFrame c).portOpen = s.portOpen
        unfold State.acceptFrame
        split <;> rfl
      | false => rfl
    all_goals rfl

theorem State.clockByte_portOpen (s : State) (b : Byte) : (s.clockByte b).portOpen = s.portOpen := by
  have hshift : (s.shiftIn b).headerOut.portOpen = s.portOpen := State.headerOut_portOpen _
  unfold State.clockByte
  dsimp only
  split
  · split
    · rw [State.decideByte_portOpen, State.responseOut_portOpen]
      exact hshift
    · rw [State.responseOut_portOpen, State.decideByte_portOpen]
      exact hshift
  · rw [State.decideByte_portOpen, State.responseOut_portOpen, hshift]

theorem State.clock_portOpen (s : State) (bs : List Byte) : (s.clock bs).portOpen = s.portOpen := by
  induction bs generalizing s with
  | nil => rfl
  | cons b bs ih => rw [State.clock_cons, ih, State.clockByte_portOpen]

/-- How the bytes are spread over the rows of a period makes no difference. -/
theorem State.inPeriod_append (s : State) (bs cs : List Byte) : s.inPeriod (bs ++ cs) = (s.inPeriod bs).inPeriod cs := by
  unfold State.inPeriod
  cases h : s.portOpen with
  | false => simp only [Bool.false_eq_true, if_false, h]
  | true => simp only [if_true, State.clock_portOpen, h, State.clock_append]

theorem State.periodFits.streams {s : State} (h : s.periodFits) : s.svp.streams := by
  intro o ho
  obtain ⟨hsent, hlive, -⟩ := h.2 o ho
  exact ⟨hsent, hlive⟩

/-- The partial mark of a response cut short at the rise (R167). -/
theorem ServicePort.cutShort_clockedTo {p : ServicePort} {o : OutStream} (ho : p.out = some o) (all : List Byte) :
    (p.clockedTo all).cutShort = (o.live && o.response.any fun r =>
      decide (5 ≤ all.length ∧ all.length < 10 + r.payload.length)) := by
  unfold ServicePort.cutShort ServicePort.clockedTo ServicePort.clockedOut
  rw [ho]
  cases hr : o.response with
  | none => simp [hr]
  | some r =>
    by_cases hout : 10 + r.payload.length ≤ all.length
    · simp [hr, hout, Response.lastByte, Nat.not_lt.mpr hout]
    · simp [hr, hout, Response.lastByte, Bool.and_assoc]
      rfl

/-- The rise of SSn in a period that has been decided or is a poll (R163, R167). -/
theorem State.closePeriod_of_poll {s : State} (h : s.svp.decided = true ∨ s.svp.shifter.headD 0 = 0) :
    s.closePeriod = { s with svp := { s.svp with
      decided := true
      lastVerdict := if s.svp.decided then s.svp.lastVerdict else .poll
      lastTag := if s.svp.decided then s.svp.lastTag else 0
      partialMark := s.svp.partialMark || s.svp.cutShort } } := by
  have hdecide : s.decideAtEnd = { s with svp := { s.svp with
      decided := true
      lastVerdict := if s.svp.decided then s.svp.lastVerdict else .poll
      lastTag := if s.svp.decided then s.svp.lastTag else 0 } } := by
    unfold State.decideAtEnd
    cases hd : s.svp.decided with
    | true => simp only [if_true, ← hd]
    | false =>
      have hzero := h.resolve_left (by simp [hd])
      cases hb : s.svp.shifter with
      | nil => rfl
      | cons b bs =>
        have hb0 : b = 0 := by simpa [hb] using hzero
        subst hb0
        rfl
  unfold State.closePeriod
  rw [hdecide]
  rfl

/-- Settles O51: the out side follows the bytes while the request stays open, and at the rise the poll is decided. -/
theorem selectPeriodRuns : Obligations.SelectPeriodRuns := by
  refine ⟨fun s hlow hs => ?fall, fun s bs all hs hlow hi hfits hall hopen => ?bytes,
    fun s bs all o hs hlow hi hfits hout hall hopen => ?rise, fun s bs hs hlow hi => ?ignored,
    fun s t bs cs h => ?spread⟩
  case fall =>
    refine congrArg Host.Outcome.next ((if_neg ?_).trans ((if_neg ?_).trans rfl))
    · rw [hlow]
      exact Bool.false_ne_true
    · rw [hs]
      exact Bool.false_ne_true
  case bytes =>
    have hclock : s.inPeriod bs = s.clockedTo all := by
      rw [State.inPeriod_of_taken hs hlow hi, State.clock_of_open hfits.streams bs (hall ▸ hopen), hall]
    exact ⟨congrArg Host.Outcome.next hclock, congrArg Host.Outcome.next hclock⟩
  case rise =>
    have hopen' : s.svp.decided = true ∨ undecidedBytes (s.svp.shifter ++ bs) := hall ▸ hopen.imp id Or.inl
    have hclock : s.clock bs = s.clockedTo all := by rw [State.clock_of_open hfits.streams bs hopen', hall]
    have hport : s.portOpen = true := by rw [State.portOpen_eq hs hlow, hi]; rfl
    have hcut := ServicePort.cutShort_clockedTo hout all
    show execSelectPeriodEnd bs s = _
    simp only [execSelectPeriodEnd, hport, if_true, hclock]
    rw [State.closePeriod_of_poll (hopen.imp (fun hd => (ServicePort.clockedOut_decided _ _).trans hd) id)]
    have hdecided : (s.clockedTo all).svp.decided = s.svp.decided := ServicePort.clockedOut_decided _ _
    have hverdict : (s.clockedTo all).svp.lastVerdict = s.svp.lastVerdict := ServicePort.clockedOut_lastVerdict _ _
    have htag : (s.clockedTo all).svp.lastTag = s.svp.lastTag := ServicePort.clockedOut_lastTag _ _
    have hcut' : (s.clockedTo all).svp.cutShort = _ := hcut
    have hignoring : (s.svp.clockedOut all.length).ignoring = false := (ServicePort.clockedOut_ignoring _ _).trans hi
    rw [hdecided, hverdict, htag, hcut', ← hignoring]
    rfl
  case ignored =>
    have hignored := State.inPeriod_of_ignored hs hlow hi bs
    have hshut : s.portOpen = false := by rw [State.portOpen_eq hs hlow, hi]; rfl
    refine ⟨congrArg Host.Outcome.next hignored, congrArg Host.Outcome.next hignored,
      congrArg Host.Outcome.next hignored, congrArg Host.Outcome.next hignored,
      congrArg Host.Outcome.next (if_pos hlow), ?_⟩
    show execSelectPeriodEnd bs s = _
    simp only [execSelectPeriodEnd, hshut, Bool.false_eq_true, if_false]
  case spread =>
    have ht : t = s.inPeriod bs := (Host.Outcome.next.inj h).symm
    have happend : (.next (s.inPeriod (bs ++ cs)) : Result) = .next ((s.inPeriod bs).inPeriod cs) :=
      congrArg Host.Outcome.next (s.inPeriod_append bs cs)
    rw [ht]
    refine ⟨happend, happend, ?_⟩
    show execSelectPeriodEnd (bs ++ cs) s = execSelectPeriodEnd cs (s.inPeriod bs)
    unfold execSelectPeriodEnd State.inPeriod
    cases hopen : s.portOpen with
    | false => simp only [Bool.false_eq_true, if_false, hopen]
    | true => simp only [if_true, State.clock_portOpen, hopen, State.clock_append]

/-- Settles O52: by what the port reads at the deciding byte. -/
theorem requestsAreDecided : Obligations.RequestsAreDecided := by
  intro s bs all hs hlow hi hfits hd hall
  have hopen : undecidedBytes s.svp.shifter := by
    obtain ⟨o, ho⟩ := Option.isSome_iff_exists.mp (hfits.1 hs hlow hi)
    exact (hfits.2 o ho).2.2 hd
  have hclock := State.inPeriod_of_taken hs hlow hi bs
  have hst := hfits.streams
  have hrefused {pre fill : List Byte} {b : Byte} (v : Verdict) (tag : Byte) (code : Nat) (hcode : v.code.toNat = code)
      (hsplit : s.svp.shifter ++ bs = (pre ++ [b]) ++ fill) (hpre : undecidedBytes pre)
      (h : (readPeriod (pre ++ [b]) = .malformed tag ∧ v = .refusedFormat) ∨
        ∃ c, readPeriod (pre ++ [b]) = .whole c false ∧ v = .refusedCrc ∧ tag = c.tag) :
      (.next (s.inPeriod bs) : Result) = .next (State.raise
        { s with svp := { s.svp.clockedOut all.length with
          shifter := all, lastVerdict := v, lastTag := tag, decided := true } }
        .frameError (BitVec.ofNat 32 (code + 256 * tag.toNat))) := by
    rw [hclock, State.clock_refused hst hd hopen hsplit hpre h, detailBytes_eq, hcode, ← hall,
      ← ServicePort.clockedTo_commands s.svp all]
    rfl
  refine ⟨fun c fill hlen hframe => ?frame, fun tag code payload fill x y hlen hframe hcrc => ?crc,
    fun b more hb hne hne' => ?first, fun tag code n more hn hlong => ?length, fun hhead hpart => ?cut⟩
  case frame =>
    obtain ⟨x, y, hbytes, hcrc⟩ := c.exists_frame
    have hread := readPeriod_unsealed hlen x y
    rw [hcrc, beq_self_eq_true] at hread
    have hsplit : s.svp.shifter ++ bs = ((c.unsealed ++ [x]) ++ [y]) ++ fill := by
      rw [← hall, hframe, hbytes]
      simp
    obtain ⟨choices, counted, room, hclocked, hcounted, hroom, hchoices⟩ :=
      State.clock_received hst hd hopen hsplit (c.undecided_unsealed hlen x) (by simpa using hread)
    have hlength : c.frame.length = (c.unsealed ++ [x]).length + 1 := by rw [hbytes]; simp
    refine ⟨counted, choices, by omega, fun hapart => hchoices (hlength ▸ hapart), ?_⟩
    have hwhen : room = decide (s.svp.commands.length < 4 ∧
        (s.svp.clockedOut counted).responses.length + s.svp.commands.length +
          (if s.svp.executing.isSome then 1 else 0) < 8) := by
      rw [hroom, ServicePort.hasRoom, ServicePort.clockedOut_commands, ServicePort.clockedOut_executing, Bool.decide_and]
      rfl
    refine congrArg Host.Outcome.next ((hclock.trans hclocked).trans ?_)
    rw [← hall]
    by_cases hfull : s.svp.commands.length < 4 ∧
        (s.svp.clockedOut counted).responses.length + s.svp.commands.length +
          (if s.svp.executing.isSome then 1 else 0) < 8
    · rw [if_pos hfull, hwhen, decide_eq_true hfull, ← ServicePort.clockedTo_commands s.svp all]
      rfl
    · rw [if_neg hfull, hwhen, decide_eq_false hfull]
      rfl
  case crc =>
    have hread := readPeriod_unsealed (c := ⟨tag, code, payload⟩) hlen x y
    rw [beq_eq_false_iff_ne.mpr hcrc] at hread
    have hsplit : s.svp.shifter ++ bs =
        ((QueuedCommand.unsealed ⟨tag, code, payload⟩ ++ [x]) ++ [y]) ++ fill := by
      rw [← hall, hframe]
      simp [QueuedCommand.unsealed]
    exact hrefused .refusedCrc tag 2 rfl hsplit (QueuedCommand.undecided_unsealed hlen x)
      (.inr ⟨_, by simpa using hread, rfl, rfl⟩)
  case first =>
    exact hrefused .refusedFormat 0 3 rfl (pre := []) (hall ▸ hb) (.inl rfl) (.inl ⟨readPeriod_badFirst [] hne hne', rfl⟩)
  case length =>
    exact hrefused .refusedFormat tag 3 rfl (pre := [0xA5, tag, code]) (b := n) (hall ▸ hn)
      (.inr ⟨rfl, .inl (by simp)⟩) (.inl ⟨readPeriod_tooLong (bs := [0xA5, tag, code, n]) rfl (by simp) hlong, rfl⟩)
  case cut =>
    have hnone : undecidedBytes all := by
      obtain ⟨more, hmore⟩ := List.head?_eq_some_iff.mp hhead
      exact .inr ⟨by rw [hmore]; rfl, hpart⟩
    have hport : s.portOpen = true := by rw [State.portOpen_eq hs hlow, hi]; rfl
    have hto : s.clock bs = s.clockedTo all := by
      rw [State.clock_of_open hst bs (.inr (hall ▸ hnone)), hall]
    have hdecided : (s.clockedTo all).svp.decided = false := (ServicePort.clockedOut_decided _ _).trans hd
    have hend : (s.clockedTo all).decideAtEnd = (s.clockedTo all).refuseFrame .refusedFormat (byteAt all 1) := by
      have hr : readPeriod (s.clockedTo all).svp.shifter = .incomplete (byteAt all 1) :=
        readPeriod_cut hhead hpart
      unfold State.decideAtEnd
      rw [hdecided, hr]
      rfl
    have hclose : (s.clock bs).closePeriod.svp.lastVerdict = .refusedFormat ∧
        (s.clock bs).closePeriod.svp.lastTag = byteAt all 1 ∧
        (s.clock bs).closePeriod.svp.commands = s.svp.commands ∧
        (s.clock bs).closePeriod.events = s.events.raise .frameError (detailBytes 3 (byteAt all 1) 0) := by
      simp only [hto, State.closePeriod, hend]
      exact ⟨rfl, rfl, s.svp.clockedTo_commands all, rfl⟩
    obtain ⟨hverdict, htag, hcommands, hevents⟩ := hclose
    have hexec : exec (.selectPeriodEnd bs) s = .next { (s.clock bs).closePeriod with svp :=
        { (s.clock bs).closePeriod.svp with ssLow := false, ignoring := false, decided := false, out := none } } := by
      show execSelectPeriodEnd bs s = _
      simp only [execSelectPeriodEnd, hport, if_true]
    refine ⟨_, hexec, hverdict, htag, hcommands, rfl, ?_⟩
    show (s.clock bs).closePeriod.events.sources[_] = _
    rw [hevents, EventUnit.raise_source, detailBytes_eq]
    rfl

end Sys2Proof.Machine
end

section
/-! PROOF. The units stay in bounds: trace buffer, event levels, service queues, region records, timers and select
periods, each under its own premise. -/

namespace Sys2Proof.Machine

open Sys2Proof

set_option Elab.async false

/-! ### The bounds that a step keeps -/

/-- Each bound of the units is kept, under its own premise. -/
structure State.Bounds (s t : State) : Prop where
  trace   : s.trace.fits → t.trace.fits
  events  : s.events.fits → t.events.fits
  svp     : s.svp.fits → t.svp.fits
  regions : (∀ i : Fin 8, s.regions.records[i].fits) → ∀ i : Fin 8, t.regions.records[i].fits
  timers  : s.timersFit → t.timersFit
  period  : s.periodFits → t.periodFits

@[refl] theorem State.Bounds.refl (s : State) : s.Bounds s := ⟨id, id, id, id, id, id⟩

@[trans] theorem State.Bounds.trans {s t u : State} (h : s.Bounds t) (g : t.Bounds u) : s.Bounds u where
  trace := g.trace ∘ h.trace
  events := g.events ∘ h.events
  svp := g.svp ∘ h.svp
  regions := g.regions ∘ h.regions
  timers := g.timers ∘ h.timers
  period := g.period ∘ h.period

/-- The frame of the operations behind a step keeps every bound. -/
theorem State.Steady.bounds {s t : State} (h : s.Steady t) : s.Bounds t where
  trace := h.trace
  events := h.events
  svp := by rw [h.svp]; exact id
  regions := by rw [h.regions]; exact id
  timers hs := by
    obtain ⟨hport, hgate⟩ := State.timersFit_iff.mp hs
    exact State.timersFit_iff.mpr ⟨h.accessTimer 0 (by omega) hport, h.timeBase.symm ▸ h.gateTimer 0 (by omega) hgate⟩
  period := by
    unfold State.periodFits
    rw [h.svp, h.inReset]
    exact id

/-- A change of the service port alone. -/
theorem State.Bounds.of_svp {s : State} {p : ServicePort} (hfits : s.svp.fits → p.fits)
    (hperiod : s.periodFits → State.periodFits { s with svp := p }) : s.Bounds { s with svp := p } :=
  ⟨id, id, hfits, id, id, hperiod⟩

/-- The bounds do not look at the queue or at the open orders. -/
theorem State.Bounds.setChoices (s : State) (k : Nat) : s.Bounds { s with orderChoices := k } := ⟨id, id, id, id, id, id⟩

theorem State.whenUp_bounds {s : State} {f : State → State} (h : s.Bounds (f s)) : s.Bounds (s.whenUp f) := by
  unfold State.whenUp
  split
  · exact .refl s
  · exact h

/-! ### The executor (R161, R168) -/

/-- A response more leaves a select period as its bytes have brought it. -/
theorem State.periodFits.queue {s : State} (h : s.periodFits) {p : ServicePort} {more : List Response}
    (hss : p.ssLow = s.svp.ssLow) (hig : p.ignoring = s.svp.ignoring) (hout : p.out = s.svp.out)
    (hshift : p.shifter = s.svp.shifter) (hdec : p.decided = s.svp.decided)
    (hresponses : p.responses = s.svp.responses ++ more) : State.periodFits { s with svp := p } := by
  obtain ⟨hsome, hfits⟩ := h
  refine ⟨fun h1 h2 h3 => ?_, fun o ho => ?_⟩
  · show p.out.isSome
    rw [hout]
    exact hsome h1 (hss ▸ h2) (hig ▸ h3)
  · obtain ⟨hsent, hlive, hopen⟩ := hfits o (hout ▸ ho)
    refine ⟨?_, fun hl => ?_, fun hd => ?_⟩
    · show _ = decide (4 ≤ p.shifter.length)
      rw [hshift]
      exact hsent
    · obtain ⟨r, hr, hhead, hlt⟩ := hlive hl
      refine ⟨r, hr, ?_, ?_⟩
      · show p.responses.head? = some r
        rw [hresponses, List.head?_append, hhead]
        rfl
      · show p.shifter.length < _
        rw [hshift]
        exact hlt
    · show undecidedBytes p.shifter
      rw [hshift]
      exact hopen (hdec ▸ hd)

/-- A command taken from the queue and answered. -/
theorem State.ended_bounds {s : State} {code tag : Byte} {p : List Byte} {rest : List QueuedCommand}
    (h : s.offers code tag p rest) (r : ResultCode) (payload : List Byte) : s.Bounds (s.ended rest tag r payload) := by
  obtain ⟨-, hexec, hcommands⟩ := h
  refine .of_svp (fun hfits => ?_) fun hperiod => hperiod.queue rfl rfl rfl rfl rfl rfl
  simp only [ServicePort.fits, hexec, hcommands, List.length_cons, List.length_append, List.length_nil] at hfits ⊢
  omega

/-- A command taken from the queue that waits for its boundary. -/
theorem State.executing_bounds {s : State} {code tag : Byte} {p : List Byte} {rest : List QueuedCommand}
    (h : s.offers code tag p rest) (x : Executing) :
    s.Bounds { s with svp := { s.svp with commands := rest, executing := some x } } := by
  obtain ⟨-, hexec, hcommands⟩ := h
  refine .of_svp (fun hfits => ?_) fun hperiod => hperiod.queue rfl rfl rfl rfl rfl (List.append_nil _).symm
  simp only [ServicePort.fits, hexec, hcommands, List.length_cons, Option.isSome_some, Option.isSome_none] at hfits ⊢
  simp only [if_true, Bool.false_eq_true, if_false] at hfits ⊢
  omega

/-- The executing command, at its boundary, is answered. -/
theorem State.answered_bounds {s : State} {x : Executing} (h : s.svp.executing = some x) (tag : Byte) (r : ResultCode)
    (payload : List Byte) :
    s.Bounds (State.respond { s with svp := { s.svp with executing := none } } tag r payload) := by
  refine .of_svp (fun hfits => ?_) fun hperiod => hperiod.queue rfl rfl rfl rfl rfl rfl
  simp only [ServicePort.fits, h, List.length_append, List.length_singleton, Option.isSome_some, Option.isSome_none] at hfits ⊢
  simp only [if_true, Bool.false_eq_true, if_false] at hfits ⊢
  omega

/-- What runs behind a service port runs behind another in the same way. -/
theorem State.Steady.withSvp {s t : State} (h : s.Steady t) (p : ServicePort) :
    State.Steady { s with svp := p } { t with svp := p } :=
  ⟨h.inReset, h.straps, h.timeBase, h.regions, rfl, h.pending, h.trace, h.events, h.gateTimer, h.accessTimer⟩

/-- A response behind the frame keeps what the response alone keeps. -/
theorem State.Steady.respond_bounds {s t : State} (h : s.Steady t) (tag : Byte) (r : ResultCode) (payload : List Byte) :
    (s.respond tag r payload).Bounds (t.respond tag r payload) := by
  have heq : t.respond tag r payload = { t with svp := (s.respond tag r payload).svp } := by
    unfold State.respond
    rw [h.svp]
  rw [heq]
  exact (h.withSvp (s.respond tag r payload).svp).bounds

/-! ### Regions (R97, R105, R106) -/

theorem setRegion_regions_fit {s : State} (h : ∀ i : Fin 8, s.regions.records[i].fits) (p : List Byte) (i : Fin 8) :
    (s.runSetRegion p).1.regions.records[i].fits := by
  unfold State.runSetRegion
  cases hargs : setRegionArgs p with
  | none => exact h i
  | some x =>
    obtain ⟨n, r⟩ := x
    obtain ⟨hfits, -⟩ := fits_and_laidOut_of_setRegionArgs hargs
    show ((s.regions.records.set n.val r n.isLt)[i.val]).fits
    by_cases hi : n.val = i.val
    · simpa only [hi, Vector.getElem_set_self] using hfits
    · rw [Vector.getElem_set_ne _ _ hi]
      exact h i

theorem setBackground_records (s : State) (p : List Byte) : (s.runSetBackground p).1.regions.records = s.regions.records := by
  unfold State.runSetBackground
  split <;> rfl

/-- A service command keeps every bound. -/
theorem exec_service_bounds {c : Instr} {code : Byte} {s t : State} (hc : commandCode c = some code)
    (h : exec c s = .next t) : s.Bounds t := by
  obtain rfl | ⟨tag, p, rest, hoffer, rfl | rfl⟩ := exec_service_cases hc h
  · exact .refl _
  · exact State.ended_bounds hoffer _ _
  · obtain ⟨u, r, q, hu, heq⟩ | ⟨hregions, x, r, q, hx, heq⟩ | ⟨w, -, heq⟩ :=
      ownRule_cases c ⟨tag, code, p⟩ (s.taken rest)
    · rw [heq]
      exact (State.ended_bounds hoffer r q).trans (hu.toSteady.respond_bounds tag r q)
    · rw [heq, ← hx]
      refine (State.ended_bounds hoffer r q).trans ⟨id, id, id, fun hfits i => ?_, id, id⟩
      show (replyOf c p (s.taken rest)).1.regions.records[i].fits
      obtain rfl | rfl := hregions
      · exact setRegion_regions_fit (s := s.taken rest) hfits p i
      · have hrecords := setBackground_records (s.taken rest) p
        show ((s.taken rest).runSetBackground p).1.regions.records[i].fits
        rw [hrecords]
        exact hfits i
    · rw [heq]
      exact State.executing_bounds hoffer _

/-! ### Select periods (R162 to R167) -/

/-- All that one byte can do: it leaves the request open, has it refused, or ends its frame. -/
theorem State.clockByte_cases (s : State) (b : Byte) :
    ((s.svp.decided = true ∨ undecidedBytes (s.svp.shifter ++ [b])) ∧
        s.clockByte b = s.clockedTo (s.svp.shifter ++ [b])) ∨
      (∃ v tag detail, s.clockByte b = State.raise
        { s with svp := (s.svp.clockedTo (s.svp.shifter ++ [b])).judged s.svp.commands v tag } .frameError detail) ∨
      ∃ c choices room, s.clockByte b =
          { s with orderChoices := choices, svp := (s.svp.clockedTo (s.svp.shifter ++ [b])).received room c } ∧
        (room = (s.svp.clockedTo (s.svp.shifter ++ [b])).hasRoom ∨ room = s.svp.hasRoom) := by
  by_cases hopen : s.svp.decided = true ∨ undecidedBytes (s.svp.shifter ++ [b])
  · exact .inl ⟨hopen, State.clockByte_of_open hopen⟩
  · obtain ⟨hd, hdec⟩ := not_or.mp hopen
    have hd : s.svp.decided = false := by simpa using hd
    obtain ⟨tag, hread⟩ | ⟨c, crcOk, hread⟩ := readPeriod_of_decided hdec
    · exact .inr (.inl ⟨_, _, _, State.clockByte_refused hd (.inl ⟨hread, rfl⟩)⟩)
    · cases crcOk with
      | false => exact .inr (.inl ⟨_, _, _, State.clockByte_refused hd (.inr ⟨c, hread, rfl, rfl⟩)⟩)
      | true =>
        obtain ⟨choices, room, hbyte, hroom⟩ := State.clockByte_frame hd hread
        exact .inr (.inr ⟨c, choices, room, hbyte, hroom.imp And.left And.left⟩)

theorem ServicePort.clockedOut_responses_le (p : ServicePort) (n : Nat) :
    (p.clockedOut n).responses.length ≤ p.responses.length := by
  unfold ServicePort.clockedOut
  split
  · exact le_rfl
  · dsimp only
    split
    · rw [List.length_tail]
      omega
    · exact le_rfl

theorem ServicePort.fits.clockedTo {p : ServicePort} (h : p.fits) (all : List Byte) : (p.clockedTo all).fits := by
  obtain ⟨hcommands, hitems⟩ := h
  have hle : (p.clockedTo all).responses.length ≤ p.responses.length := p.clockedOut_responses_le _
  have hexec : (p.clockedTo all).executing = p.executing := p.clockedOut_executing _
  rw [ServicePort.fits, p.clockedTo_commands, hexec]
  exact ⟨hcommands, by omega⟩

/-- A frame is queued only where the port has room for it (R165). -/
theorem ServicePort.fits.received {p : ServicePort} (h : p.fits) {room : Bool} (hroom : room = true → p.hasRoom = true)
    (c : QueuedCommand) : (p.received room c).fits := by
  cases room with
  | false => exact h
  | true =>
    obtain ⟨h1, h2⟩ := Bool.and_eq_true_iff.mp (hroom rfl)
    have h1 := of_decide_eq_true h1
    have h2 := of_decide_eq_true h2
    show (p.commands ++ [c]).length ≤ _ ∧ p.responses.length + (p.commands ++ [c]).length +
      (if p.executing.isSome then 1 else 0) ≤ _
    rw [List.length_append, List.length_singleton]
    exact ⟨h1, by omega⟩

/-- Fewer responses leave no less room. -/
theorem ServicePort.hasRoom_clockedTo {p : ServicePort} (h : p.hasRoom = true) (all : List Byte) :
    (p.clockedTo all).hasRoom = true := by
  obtain ⟨h1, h2⟩ := Bool.and_eq_true_iff.mp h
  have h2 := of_decide_eq_true h2
  have hle : (p.clockedTo all).responses.length ≤ p.responses.length := p.clockedOut_responses_le _
  have hexec : (p.clockedTo all).executing = p.executing := p.clockedOut_executing _
  refine Bool.and_eq_true_iff.mpr ⟨by rw [p.clockedTo_commands]; exact h1, decide_eq_true ?_⟩
  rw [p.clockedTo_commands, hexec]
  omega

/-- The period as its bytes have brought it, in a port that has taken part in it. -/
theorem State.periodFits_iff {s : State} : s.periodFits ↔
    (s.inReset = false → s.svp.ssLow = true → s.svp.ignoring = false → s.svp.out.isSome) ∧ s.svp.streams ∧
      (s.svp.out.isSome → s.svp.decided = false → undecidedBytes s.svp.shifter) := by
  constructor
  · rintro ⟨hsome, hfits⟩
    refine ⟨hsome, fun o ho => ⟨(hfits o ho).1, (hfits o ho).2.1⟩, fun hout hd => ?_⟩
    obtain ⟨o, ho⟩ := Option.isSome_iff_exists.mp hout
    exact (hfits o ho).2.2 hd
  · rintro ⟨hsome, hstreams, hopen⟩
    refine ⟨hsome, fun o ho => ⟨(hstreams o ho).1, (hstreams o ho).2, hopen (Option.isSome_iff_exists.mpr ⟨o, ho⟩)⟩⟩

theorem ServicePort.clockedTo_out_isSome (p : ServicePort) (all : List Byte) :
    (p.clockedTo all).out.isSome = p.out.isSome := by
  cases h : p.out <;> simp only [ServicePort.clockedTo, ServicePort.clockedOut, h, Option.isSome_some]

/-- A byte keeps the period in step: it leaves its request open, or the request is decided. -/
theorem State.periodFits.byte {s : State} (h : s.periodFits) {b : Byte} {p : ServicePort}
    (hp : p = s.svp.clockedTo (s.svp.shifter ++ [b]) ∧ (s.svp.decided = true ∨ undecidedBytes (s.svp.shifter ++ [b])) ∨
      ∃ cs v tag, p = (s.svp.clockedTo (s.svp.shifter ++ [b])).judged cs v tag) :
    State.periodFits { s with svp := p } := by
  obtain ⟨hsome, hstreams, -⟩ := State.periodFits_iff.mp h
  have hto := hstreams.clockedTo (all := s.svp.shifter ++ [b]) (by simp)
  have hsome' (h1 : s.inReset = false) (h2 : (s.svp.clockedTo (s.svp.shifter ++ [b])).ssLow = true)
      (h3 : (s.svp.clockedTo (s.svp.shifter ++ [b])).ignoring = false) :
      (s.svp.clockedTo (s.svp.shifter ++ [b])).out.isSome := by
    rw [ServicePort.clockedTo_out_isSome]
    exact hsome h1 ((s.svp.clockedOut_ssLow _).symm.trans h2) ((s.svp.clockedOut_ignoring _).symm.trans h3)
  refine State.periodFits_iff.mpr ?_
  obtain ⟨rfl, hopen⟩ | ⟨cs, v, tag, rfl⟩ := hp
  · refine ⟨hsome', hto, fun _ hd => hopen.resolve_left fun hd' => ?_⟩
    exact absurd ((s.svp.clockedOut_decided _).symm.trans hd |>.symm.trans hd') nofun
  · exact ⟨hsome', hto.judged cs v tag, fun _ hd => absurd hd nofun⟩

theorem State.clockByte_bounds (s : State) (b : Byte) : s.Bounds (s.clockByte b) := by
  obtain ⟨hopen, hbyte⟩ | ⟨v, tag, detail, hbyte⟩ | ⟨c, choices, room, hbyte, hroom⟩ := s.clockByte_cases b <;>
    rw [hbyte]
  · exact .of_svp (·.clockedTo _) (·.byte (.inl ⟨rfl, hopen⟩))
  · refine .trans (.of_svp ?_ (·.byte (.inr ⟨_, _, _, rfl⟩))) (State.raise_offBus _ _ _).toSteady.bounds
    intro hfits
    have hto := hfits.clockedTo (s.svp.shifter ++ [b])
    rw [← s.svp.clockedTo_commands (s.svp.shifter ++ [b])]
    exact hto
  · refine .trans (.of_svp (fun hfits => ?_) fun hperiod => ?_)
      (State.Bounds.setChoices { s with svp := (s.svp.clockedTo (s.svp.shifter ++ [b])).received room c } choices)
    · refine (hfits.clockedTo _).received (fun ht => ?_) c
      obtain rfl | rfl := hroom
      · exact ht
      · exact ServicePort.hasRoom_clockedTo ht _
    · exact hperiod.byte (.inr ⟨_, _, _, ServicePort.received_eq _ room c⟩)

theorem State.clock_bounds (s : State) (bs : List Byte) : s.Bounds (s.clock bs) := by
  induction bs generalizing s with
  | nil => exact .refl s
  | cons b bs ih => exact (s.clockByte_bounds b).trans (ih _)

theorem State.inPeriod_bounds (s : State) (bs : List Byte) : s.Bounds (s.inPeriod bs) := by
  unfold State.inPeriod
  split
  · exact s.clock_bounds bs
  · exact .refl s

/-- All that the rise of SSn can decide: nothing, a verdict, a refused frame, or a frame received where there is room. -/
theorem State.decideAtEnd_cases (s : State) : ∃ p : ServicePort, (s.svp.fits → p.fits) ∧
    (s.decideAtEnd = { s with svp := p } ∨ ∃ detail, s.decideAtEnd = State.raise { s with svp := p } .frameError detail) := by
  unfold State.decideAtEnd
  split
  · exact ⟨s.svp, id, .inl rfl⟩
  · split
    · exact ⟨s.svp.judged s.svp.commands .poll 0, id, .inl rfl⟩
    · exact ⟨s.svp.judged s.svp.commands .poll 0, id, .inl rfl⟩
    · rename_i tag _
      exact ⟨s.svp.judged s.svp.commands .refusedFormat tag, id, .inr ⟨_, rfl⟩⟩
    · rename_i tag _
      exact ⟨s.svp.judged s.svp.commands .refusedFormat tag, id, .inr ⟨_, rfl⟩⟩
    · rename_i c crcOk _
      cases crcOk with
      | true => exact ⟨_, fun h => h.received id c, .inl (s.acceptFrame_eq c)⟩
      | false => exact ⟨s.svp.judged s.svp.commands .refusedCrc c.tag, id, .inr ⟨_, rfl⟩⟩

/-- The rise of SSn: the period has ended, and no item has come but a command with room for it. -/
theorem selectPeriodEnd_bounds {bs : List Byte} {s t : State} (h : exec (.selectPeriodEnd bs) s = .next t) :
    s.Bounds t := by
  have shut (x : State) (p : ServicePort) (hp : x.svp.fits → p.fits) (m : Bool) :
      x.Bounds { x with svp := { p with ssLow := false, ignoring := false, decided := false, out := none, partialMark := m } } :=
    .of_svp hp fun _ => ⟨fun _ hlow => absurd hlow nofun, fun _ ho => absurd ho nofun⟩
  have ht : t = { (if s.portOpen then (s.clock bs).closePeriod else s) with svp :=
      { (if s.portOpen then (s.clock bs).closePeriod else s).svp with
        ssLow := false, ignoring := false, decided := false, out := none } } := (Host.Outcome.next.inj h).symm
  cases hopen : s.portOpen with
  | false =>
    rw [ht, hopen]
    exact shut s s.svp id s.svp.partialMark
  | true =>
    refine (s.clock_bounds bs).trans ?_
    rw [ht, hopen, if_pos rfl]
    obtain ⟨p, hp, hend | ⟨detail, hend⟩⟩ := (s.clock bs).decideAtEnd_cases
    · rw [State.closePeriod, hend]
      exact shut (s.clock bs) p hp _
    · rw [State.closePeriod, hend]
      exact (shut (s.clock bs) p hp _).trans (State.raise_offBus _ .frameError detail).toSteady.bounds

/-- The fall of SSn (R163, R166, R171). -/
theorem selectPeriodStart_bounds {s t : State} (h : exec .selectPeriodStart s = .next t) : s.Bounds t := by
  cases h
  split
  · exact .refl s
  · split
    · rename_i hreset
      exact .of_svp id fun ⟨_, hfits⟩ => ⟨fun hup => absurd (hreset.symm.trans hup) nofun, hfits⟩
    · refine .of_svp id fun _ => State.periodFits_iff.mpr ⟨fun _ _ _ => rfl, ?_, fun _ _ => .inl rfl⟩
      rintro o ⟨⟩
      refine ⟨rfl, fun hlive => ?_⟩
      cases hr : s.svp.responses with
      | nil => simp [hr] at hlive
      | cons r rest => exact ⟨r, rfl, rfl, by simp⟩

/-! ### Time base and resets (R65, R90, R127, R134) -/

/-- A step more before the deadline. -/
theorem gateTimed.tick {c : Option PendingCommit} {now : Word} (h : gateTimed c now 1) : gateTimed c (now + 1) 0 := by
  intro pc hpc d hd
  obtain ⟨hlo, hhi⟩ := h pc hpc d hd
  have hstep : (d - (now + 1)).toNat = (d - now).toNat - 1 := by bv_omega
  omega

theorem MemPort.timed.tick {p : MemPort} (h : p.timed 1) :
    MemPort.timed { p with access := p.access.map fun a => { a with steps := a.steps + 1 } } 0 := by
  intro b hb h0
  obtain ⟨a, ha, rfl⟩ := Option.map_eq_some_iff.mp hb
  exact h a ha h0

/-- Once the gate timer's expiry has come about, a step is left to the deadline. -/
theorem State.expireGate_timed {s : State} (h : gateTimed s.scu.commit s.timeBase 0) :
    gateTimed s.expireGate.scu.commit s.timeBase 1 := by
  cases hexp : s.gateTimerExpired with
  | true =>
    rw [State.expireGate_commit hexp]
    exact gateTimed_none _ _
  | false =>
    rw [State.expireGate_of_not hexp]
    intro pc hpc d hd
    have hne : d ≠ s.timeBase := by
      rintro rfl
      exact absurd ((State.gateTimerExpired_iff hpc).mpr hd) (by simp [hexp])
    obtain ⟨-, hhi⟩ := h pc hpc d hd
    have hpos : (d - s.timeBase).toNat ≠ 0 := by bv_omega
    exact ⟨by omega, hhi⟩

/-- Once the port's expiry has come about, the access in progress has a step left. -/
theorem State.expireAccess_timedOne {s : State} (h : s.port.timed 0) : s.expireAccess.port.timed 1 := by
  by_cases hexp : ∀ a ∈ s.port.access, a.expired = false
  · rw [State.expireAccess_of_not hexp]
    intro a ha h0
    have hne : a.steps ≠ a.timeout.toNat := fun he => by
      have hnot := hexp a ha
      exact h0 (by simpa [Access.expired, he] using hnot)
    have hle := h a ha h0
    omega
  · push Not at hexp
    obtain ⟨a, ha, hexp⟩ := hexp
    exact State.expireAccess_timed ha (by simpa using hexp)

/-- After the expiries that are due, each timer has a step left, and the step of the time base takes it. -/
theorem timeBaseStep_timersFit {s : State} (h : s.timersFit) : s.expireGate.expireAccess.tick.timersFit := by
  obtain ⟨hport, hgate⟩ := State.timersFit_iff.mp h
  have hbase : s.expireGate.expireAccess.timeBase = s.timeBase :=
    s.expireGate.expireAccess_steady.timeBase.trans s.expireGate_timeBase
  have hgate1 : gateTimed s.expireGate.expireAccess.scu.commit s.timeBase 1 :=
    s.expireGate_timeBase ▸ s.expireGate.expireAccess_steady.gateTimer 1 le_rfl
      (s.expireGate_timeBase.symm ▸ State.expireGate_timed hgate)
  have hport1 := State.expireAccess_timedOne (s.expireGate_offBus.accessTimer 0 (by omega) hport)
  refine State.timersFit_iff.mpr ⟨hport1.tick, ?_⟩
  show gateTimed s.expireGate.expireAccess.scu.commit (s.expireGate.expireAccess.timeBase + 1) 0
  rw [hbase]
  exact hgate1.tick

theorem timeBaseStep_bounds (s : State) : s.Bounds s.expireGate.expireAccess.tick := by
  have hsteady := s.expireGate_offBus.toSteady.trans (State.expireAccess_steady _)
  refine ⟨hsteady.bounds.trace, hsteady.bounds.events, hsteady.bounds.svp, hsteady.bounds.regions,
    timeBaseStep_timersFit, hsteady.bounds.period⟩

theorem State.enterStartUp_steady (s : State) : s.Steady s.enterStartUp := by
  have hheld := s.setHbi_steady { s.hbi with held := s.straps.mode == .loadHold || s.straps.mode == .hold }
  unfold State.enterStartUp
  dsimp only
  split
  · exact hheld.trans (State.beginLoad_offBus _ _ _ _).toSteady
  · exact hheld

theorem State.pinResetBlocks_bounds (s : State) {b : Bool} {x : Straps} :
    s.Bounds { s.pinResetBlocks with inReset := b, straps := x } := by
  obtain ⟨-, htrace, hevents, hsvp, hregions, htimers, -⟩ := resetMeetsInvariants
  refine ⟨fun _ => htrace, fun _ => hevents, fun _ => hsvp, fun _ => hregions, fun _ => htimers, fun _ => ?_⟩
  exact ⟨fun _ hlow hig => absurd (hlow.symm.trans hig) nofun, fun _ ho => absurd ho nofun⟩

theorem State.serviceResetBlocks_bounds (s : State) : s.Bounds s.serviceResetBlocks := by
  obtain ⟨-, htrace, hevents, -, hregions, -, -⟩ := resetMeetsInvariants
  refine ⟨fun _ => htrace, fun _ => hevents, fun _ => ⟨Nat.zero_le _, Nat.zero_le _⟩, fun _ => hregions, fun htimers => ?_,
    fun hperiod => ?_⟩
  · obtain ⟨hport, -⟩ := State.timersFit_iff.mp htimers
    refine State.timersFit_iff.mpr ⟨fun b hb => ?_, gateTimed_none _ _⟩
    obtain ⟨a, ha, rfl⟩ := Option.map_eq_some_iff.mp hb
    exact hport a ha
  · obtain ⟨hsome, hstreams, hopen⟩ := State.periodFits_iff.mp hperiod
    refine State.periodFits_iff.mpr ⟨fun h1 h2 h3 => ?_, fun o ho => ?_, fun hout => ?_⟩
    · exact Option.isSome_map.trans (hsome h1 h2 h3)
    · obtain ⟨o', ho', rfl⟩ := Option.map_eq_some_iff.mp ho
      exact ⟨(hstreams o' ho').1, nofun⟩
    · exact hopen (Option.isSome_map.symm.trans hout)

/-- The executing REVERT at its boundary: it is answered, and a start-up commit deferred behind it follows. -/
theorem State.revertEffect_bounds {s : State} {y : Executing} (hy : s.svp.executing = some y) :
    s.Bounds (State.revertEffect { s with svp := { s.svp with executing := none } } y.tag).takeDeferred := by
  obtain ⟨u, r, p, hu, heq⟩ := State.revertEffect_eq_respond { s with svp := { s.svp with executing := none } } y.tag
  rw [heq]
  exact ((State.answered_bounds hy y.tag r p).trans (hu.toSteady.respond_bounds y.tag r p)).trans
    (State.takeDeferred_offBus _).toSteady.bounds

/-- The executor takes the head of its queue. -/
theorem State.offers_of_nextCommand {s u : State} {q : QueuedCommand} (h : s.nextCommand = some (q, u)) :
    s.offers q.code q.tag q.payload u.svp.commands ∧ u = s.taken u.svp.commands := by
  unfold State.nextCommand at h
  split at h
  · cases h
  · rename_i hfree
    split at h <;> cases h
    rename_i hcommands
    simp only [Bool.or_eq_true, not_or, Bool.not_eq_true, Option.isSome_eq_false_iff, Option.isNone_iff_eq_none] at hfree
    exact ⟨⟨hfree.1, hfree.2, hcommands⟩, rfl⟩

/-- Every command keeps every bound. -/
theorem exec_bounds {c : Instr} {s t : State} (h : exec c s = .next t) : s.Bounds t := by
  have up {f : State → State} (hf : ∀ x : State, x.Bounds (f x)) : s.Bounds (s.whenUp f) := State.whenUp_bounds (hf s)
  cases hcode : commandCode c with
  | some code => exact exec_service_bounds hcode h
  | none =>
    cases c with
    | pinReset => cases h; exact s.pinResetBlocks_bounds
    | pinResetEnd b k =>
      cases h
      split
      · exact s.pinResetBlocks_bounds.trans (State.enterStartUp_steady _).bounds
      · exact .refl s
    | serviceReset =>
      cases h
      refine up fun x => ?_
      split
      · exact x.serviceResetBlocks_bounds.trans (State.enterStartUp_steady _).bounds
      · exact .refl x
    | timeBaseStep => cases h; exact up fun x => timeBaseStep_bounds x
    | hostRequest r => cases h; refine up fun x => ?_; dsimp only; split <;> exact (x.setHbi_steady _).bounds
    | requestWithdrawn =>
      cases h
      refine up fun x => ?_
      dsimp only
      split
      · exact .refl x
      · exact (x.setHbi_steady _).bounds
      · exact (x.setHbi_steady _).bounds
    | acceptance us =>
      cases h
      refine up fun x => ?_
      dsimp only
      split
      · split
        · exact (((x.setHbi_steady _).trans (State.upset_offBus _ us).toSteady).trans (State.serve_steady _ _)).bounds
        · exact .refl x
      · exact .refl x
    | accessComplete md us =>
      cases h
      refine up fun x => ?_
      have hfree := (x.freePort_offBus.trans (State.upset_offBus _ us)).toSteady
      split
      · exact .refl x
      · split
        · exact x.freePort_offBus.toSteady.bounds
        · split
          · exact (hfree.trans (State.hostWord_steady _ md)).bounds
          · exact (hfree.trans (State.loaderWord_offBus _ md).toSteady).bounds
          · exact (hfree.trans (State.verifierWord_offBus _ md).toSteady).bounds
    | accessExpiry => cases h; exact up fun x => x.expireAccess_steady.bounds
    | effectPoint =>
      cases h
      refine up fun x => ?_
      split
      · exact x.commitEffect_offBus.toSteady.bounds
      · exact .refl x
    | gateTimerExpiry => cases h; exact up fun x => x.expireGate_offBus.toSteady.bounds
    | revertEffect =>
      cases h
      refine up fun x => ?_
      dsimp only
      split
      · exact .refl x
      · rename_i y hy
        split
        · exact State.revertEffect_bounds hy
        · exact .refl x
    | selectPeriodStart => exact selectPeriodStart_bounds h
    | statusHeaderSent bs => cases h; exact s.inPeriod_bounds bs
    | responseSent bs => cases h; exact s.inPeriod_bounds bs
    | requestFrame bs => cases h; exact s.inPeriod_bounds bs
    | malformedRequest bs => cases h; exact s.inPeriod_bounds bs
    | selectPeriodEnd bs => exact selectPeriodEnd_bounds h
    | unknownCommand =>
      cases h
      split
      · exact .refl s
      · rename_i q u hnext
        split
        · exact .refl s
        · obtain ⟨hoffer, hu⟩ := State.offers_of_nextCommand hnext
          rw [hu]
          exact State.ended_bounds hoffer .unknownCommand []
    | _ => cases hcode

/-- Settles O56: a step is the idle or a command behind the queue, which no bound looks at. -/
theorem unitsStayInBounds : Obligations.UnitsStayInBounds := by
  intro s t h
  obtain ⟨-, rfl⟩ | ⟨c, rest, -, hexec⟩ := step_cases h
  · exact ⟨id, id, id, id, id, id⟩
  · obtain ⟨htrace, hevents, hsvp, hregions, htimers, hperiod⟩ := exec_bounds hexec
    exact ⟨htrace, hevents, hsvp, hregions, htimers, hperiod⟩

end Sys2Proof.Machine
end

section
/-! PROOF. The line accounting: what each operation of the line store and each write to a table does to the counts, the
two lists and the references (R24 to R36). -/

namespace Sys2Proof.Machine

open Sys2Proof

set_option Elab.async false

/-! ### Counts and lists of the line store (R24, R25) -/

/-- The counts of the lines are these, and every line of count 0 is on the list of its mark, once. -/
def LineStore.counts (st : LineStore) (refs : LineIdx → Nat) : Prop :=
  (∀ l : LineIdx, st.lines[l].refCount = refs l) ∧ st.freeList.Nodup ∧ st.badList.Nodup ∧
  (∀ l : LineIdx, l ∈ st.freeList ↔ st.lines[l].refCount = 0 ∧ st.lines[l].bad = false) ∧
  (∀ l : LineIdx, l ∈ st.badList ↔ st.lines[l].refCount = 0 ∧ st.lines[l].bad = true)

theorem State.accounted_iff {s : State} : s.accounted ↔ s.store.counts s.tables.refs ∧ ∀ l, s.tables.exclusive l := by
  constructor
  · rintro ⟨hcount, hexcl, hplaces⟩
    exact ⟨⟨hcount, hplaces⟩, hexcl⟩
  · rintro ⟨⟨hcount, hplaces⟩, hexcl⟩
    exact ⟨hcount, hexcl, hplaces⟩

section
variable {st st' : LineStore} {refs : LineIdx → Nat} (h : st.counts refs)

include h

/-- The accounting looks at counts, marks and lists only. -/
theorem LineStore.counts.congr (hlines : ∀ l : LineIdx, st'.lines[l].refCount = st.lines[l].refCount ∧
    st'.lines[l].bad = st.lines[l].bad) (hfree : st'.freeList = st.freeList) (hbad : st'.badList = st.badList) :
    st'.counts refs := by
  obtain ⟨hcount, hfreeNodup, hbadNodup, hfreeIff, hbadIff⟩ := h
  refine ⟨fun l => (hlines l).1.trans (hcount l), hfree ▸ hfreeNodup, hbad ▸ hbadNodup, fun l => ?_, fun l => ?_⟩
  · rw [hfree, (hlines l).1, (hlines l).2]
    exact hfreeIff l
  · rw [hbad, (hlines l).1, (hlines l).2]
    exact hbadIff l

/-- Lines with a count are on no list, so their counts and marks may change as long as a count remains. -/
theorem LineStore.counts.relabel {refs' : LineIdx → Nat} (hfree : st'.freeList = st.freeList)
    (hbad : st'.badList = st.badList) (hcount : ∀ l : LineIdx, st'.lines[l].refCount = refs' l)
    (hsame : ∀ l : LineIdx, refs l = 0 ∨ refs' l = 0 →
      st'.lines[l].refCount = st.lines[l].refCount ∧ st'.lines[l].bad = st.lines[l].bad) : st'.counts refs' := by
  obtain ⟨hcounts, hfreeNodup, hbadNodup, hfreeIff, hbadIff⟩ := h
  have hplace (l : LineIdx) (b : Bool) : (st'.lines[l].refCount = 0 ∧ st'.lines[l].bad = b) ↔
      (st.lines[l].refCount = 0 ∧ st.lines[l].bad = b) := by
    by_cases hl : refs l = 0 ∨ refs' l = 0
    · obtain ⟨h1, h2⟩ := hsame l hl
      rw [h1, h2]
    · obtain ⟨hold, hnew⟩ := not_or.mp hl
      rw [← hcounts l] at hold
      rw [← hcount l] at hnew
      simp only [hold, hnew, false_and]
  refine ⟨hcount, hfree ▸ hfreeNodup, hbad ▸ hbadNodup, fun l => ?_, fun l => ?_⟩
  · rw [hfree, hplace]
    exact hfreeIff l
  · rw [hbad, hplace]
    exact hbadIff l

/-- A line that has a count may be marked (R23). -/
theorem LineStore.counts.mark {l : LineIdx} (hl : refs l ≠ 0) :
    (st.setLine l { st.lines[l] with bad := true }).counts refs := by
  have ⟨hcount, _⟩ := h
  refine h.relabel rfl rfl (fun m => ?_) fun m hm => ?_
  · by_cases hml : m = l
    · subst hml
      exact (congrArg StoreLine.refCount (st.setLine_self m _)).trans (hcount m)
    · rw [st.setLine_ne _ _ _ hml]
      exact hcount m
  · have hml : m ≠ l := by
      rintro rfl
      exact hl (hm.elim id id)
    rw [st.setLine_ne _ _ _ hml]
    exact ⟨rfl, rfl⟩

/-- More references to lines that have one (R28). -/
theorem LineStore.counts.shareAll {t : Table} (ht : ∀ l, t.refs l ≤ refs l) :
    (st.shareAll t).counts fun l => refs l + t.refs l := by
  have ⟨hcount, _⟩ := h
  obtain ⟨hlines, hfree, hbad, -⟩ := st.shareAll_spec t
  refine h.relabel hfree hbad (fun l => ?_) fun l hl => ?_
  · rw [hlines l, ← hcount l]
  · have hzero : t.refs l = 0 := by have := ht l; omega
    rw [hlines l, hzero]
    exact ⟨rfl, rfl⟩

/-- The release of distinct lines that have a reference: those whose last it was join their list (R29, R30). -/
theorem LineStore.counts.dropped {ls : List LineIdx} (hnodup : ls.Nodup) (hpos : ∀ l ∈ ls, 0 < refs l)
    (hlines : ∀ l : LineIdx, st'.lines[l] = { st.lines[l] with refCount := st.lines[l].refCount - ls.count l })
    (hfree : st'.freeList = st.freeList ++ ls.filter fun l => st.lines[l].refCount == 1 && !st.lines[l].bad)
    (hbad : st'.badList = st.badList ++ ls.filter fun l => st.lines[l].refCount == 1 && st.lines[l].bad) :
    st'.counts fun l => refs l - ls.count l := by
  obtain ⟨hcount, hfreeNodup, hbadNodup, hfreeIff, hbadIff⟩ := h
  have hapart {l : LineIdx} (hl : l ∈ ls) : st.lines[l].refCount ≠ 0 := by
    have := hpos l hl
    rw [hcount l]
    omega
  have hone (l : LineIdx) : st.lines[l].refCount - ls.count l = 0 ↔
      st.lines[l].refCount = 0 ∨ (l ∈ ls ∧ st.lines[l].refCount = 1) := by
    by_cases hl : l ∈ ls
    · have hne := hapart hl
      rw [List.count_eq_one_of_mem hnodup hl]
      simp only [hl, true_and]
      omega
    · rw [List.count_eq_zero_of_not_mem hl]
      simp only [hl, false_and, or_false, Nat.sub_zero]
  refine ⟨fun l => by simp only [hlines l, hcount l], ?_, ?_, fun l => ?_, fun l => ?_⟩
  · rw [hfree, List.nodup_append']
    refine ⟨hfreeNodup, hnodup.filter _, fun l hl hm => ?_⟩
    exact hapart (List.mem_of_mem_filter hm) ((hfreeIff l).mp hl).1
  · rw [hbad, List.nodup_append']
    refine ⟨hbadNodup, hnodup.filter _, fun l hl hm => ?_⟩
    exact hapart (List.mem_of_mem_filter hm) ((hbadIff l).mp hl).1
  · rw [hfree, hlines l, List.mem_append, hfreeIff, List.mem_filter, hone]
    simp only [Bool.and_eq_true, beq_iff_eq, Bool.not_eq_true']
    tauto
  · rw [hbad, hlines l, List.mem_append, hbadIff, List.mem_filter, hone]
    simp only [Bool.and_eq_true, beq_iff_eq]
    tauto

/-- The release of one reference (R29). -/
theorem LineStore.counts.release {l : LineIdx} (hl : 0 < refs l) :
    (st.release l).counts fun m => refs m - if m = l then 1 else 0 := by
  have hpos : 0 < st.lines[l].refCount := by rw [h.1 l]; exact hl
  obtain ⟨-, hself, hothers, hfree, hbad⟩ := LineStore.released_release hpos
  have hcount (m : LineIdx) : [l].count m = if m = l then 1 else 0 := by
    by_cases hm : m = l
    · rw [hm, List.count_cons_self, List.count_nil, if_pos rfl]
    · rw [List.count_eq_zero_of_not_mem (fun h => hm (List.mem_singleton.mp h)), if_neg hm]
  have hdropped := h.dropped (st' := st.release l) (ls := [l]) (List.nodup_singleton l)
    (fun m hm => List.mem_singleton.mp hm ▸ hl) (fun m => ?_) ?_ ?_
  · simpa only [hcount] using hdropped
  · rw [hcount]
    by_cases hm : m = l
    · subst hm
      rw [if_pos rfl]
      exact hself
    · rw [if_neg hm]
      exact hothers m hm
  · rw [hfree, List.filter_cons]
    generalize st.lines[l].refCount = n, st.lines[l].bad = b
    cases b <;> by_cases h : n = 1 <;> simp [h]
  · rw [hbad, List.filter_cons]
    generalize st.lines[l].refCount = n, st.lines[l].bad = b
    cases b <;> by_cases h : n = 1 <;> simp [h]

/-- The release of a whole table (R30). -/
theorem LineStore.counts.releaseTable {t : Table} (h1 : ∀ l, t.refs l ≤ 1) (h2 : ∀ l, t.refs l ≤ refs l) :
    (st.releaseTable t).counts fun l => refs l - t.refs l := by
  have hle (l : LineIdx) : t.refs l ≤ st.lines[l].refCount := h.1 l ▸ h2 l
  obtain ⟨hlines, -, hfree, hbad⟩ := LineStore.tableReleased_releaseTable h1 hle
  have hdropped := h.dropped (st' := st.releaseTable t) (ls := t.lines) (Table.lines_nodup h1) (fun l hl => ?_)
    (fun l => t.refs_eq_count l ▸ hlines l) hfree hbad
  · simpa only [← Table.refs_eq_count] using hdropped
  · exact (t.refs_eq_count l ▸ List.count_pos_iff.mpr hl : 0 < t.refs l).trans_le (h2 l)

/-- The head of the free list gets its first reference (R26). -/
theorem LineStore.counts.allocated {l : LineIdx} {rest : List LineIdx} (hfree : st.freeList = l :: rest)
    (mask : BitVec 8) (data : List Word) :
    (st.afterAllocation l rest mask data).counts fun m => refs m + if m = l then 1 else 0 := by
  obtain ⟨hcount, hfreeNodup, hbadNodup, hfreeIff, hbadIff⟩ := h
  obtain ⟨hrest, hbad, -, hone, hmark, -, hothers⟩ := st.allocated_afterAllocation l rest mask data
  rw [hfree] at hfreeNodup
  obtain ⟨hnot, hrestNodup⟩ := List.nodup_cons.mp hfreeNodup
  obtain ⟨hzero, hgood⟩ := (hfreeIff l).mp (hfree ▸ List.mem_cons_self ..)
  refine ⟨fun m => ?_, hrest ▸ hrestNodup, hbad ▸ hbadNodup, fun m => ?_, fun m => ?_⟩
  · by_cases hm : m = l
    · subst hm
      simp only [hone, if_true, ← hcount m, hzero, Nat.zero_add]
    · simp only [hothers m hm, hm, if_false, Nat.add_zero]
      exact hcount m
  · rw [hrest]
    by_cases hm : m = l
    · subst hm
      simp only [hnot, hone, Nat.one_ne_zero, false_and]
    · rw [hothers m hm, ← hfreeIff, hfree, List.mem_cons]
      simp only [hm, false_or]
  · rw [hbad]
    by_cases hm : m = l
    · subst hm
      simp only [hone, Nat.one_ne_zero, false_and, hbadIff, hgood, Bool.false_eq_true, and_false]
    · rw [hothers m hm]
      exact hbadIff m

/-- A bad-listed line that has been scrubbed is free and unmarked (R36). -/
theorem LineStore.counts.scrubbed {l : LineIdx} (hl : l ∈ st.badList) : (st.scrubbed l).counts refs := by
  obtain ⟨hcount, hfreeNodup, hbadNodup, hfreeIff, hbadIff⟩ := h
  obtain ⟨hzero, hmark⟩ := (hbadIff l).mp hl
  have hself := st.scrubbed_self l
  have hnot : l ∉ st.freeList := fun hf => Bool.false_ne_true (((hfreeIff l).mp hf).2.symm.trans hmark)
  have hfree : (st.scrubbed l).freeList = st.freeList ++ [l] := rfl
  have hbad : (st.scrubbed l).badList = st.badList.filter fun x => x != l := rfl
  refine ⟨fun m => ?_, ?_, hbad ▸ hbadNodup.filter _, fun m => ?_, fun m => ?_⟩
  · by_cases hm : m = l
    · subst hm
      rw [hself]
      exact hcount m
    · rw [st.scrubbed_ne hm]
      exact hcount m
  · rw [hfree, List.nodup_append']
    exact ⟨hfreeNodup, List.nodup_singleton l, fun m hm hm' => hnot (List.mem_singleton.mp hm' ▸ hm)⟩
  · rw [hfree, List.mem_append, List.mem_singleton]
    by_cases hm : m = l
    · subst hm
      rw [hself]
      simp only [hnot, or_true, hzero, true_and]
    · rw [st.scrubbed_ne hm, hfreeIff]
      simp only [hm, or_false]
  · rw [hbad, List.mem_filter]
    by_cases hm : m = l
    · subst hm
      rw [hself]
      simp
    · rw [st.scrubbed_ne hm, hbadIff]
      simp [hm]

end

/-! ### References of a table (R24) -/

/-- What the entry of a slot, if any, adds to the references of a line. -/
def namedBy (o : Option Entry) (l : LineIdx) : Nat := if o.any (fun e => e.storeLine == some l) then 1 else 0

theorem Table.refs_eq_countP (t : Table) (l : LineIdx) :
    t.refs l = allSlots.countP fun i => t.slots[i].any fun e => e.storeLine == some l := by
  rw [Table.refs, Table.entries, List.countP_filterMap]
  refine List.countP_congr fun i _ => ?_
  cases t.slots[i] <;> rfl

/-- Tables with the same entries have the same references. -/
theorem Table.refs_congr {t u : Table} (h : ∀ i : Slot, t.slots[i].map Entry.storeLine = u.slots[i].map Entry.storeLine)
    (l : LineIdx) : t.refs l = u.refs l := by
  rw [Table.refs_eq_countP, Table.refs_eq_countP]
  refine List.countP_congr fun i _ => ?_
  have hi := h i
  cases ht : t.slots[i] <;> cases hu : u.slots[i] <;> simp_all

/-- A write to one slot changes the references by what it puts there and what it takes away. -/
theorem Table.refs_setSlot (t : Table) (i : Slot) (x : Option Entry) (l : LineIdx) :
    (t.setSlot i x).refs l + namedBy t.slots[i] l = t.refs l + namedBy x l := by
  have hperm : allSlots.Perm (i :: allSlots.erase i) := List.perm_cons_erase (List.mem_finRange i)
  have hothers : (allSlots.erase i).countP (fun j => (t.setSlot i x).slots[j].any fun e => e.storeLine == some l) =
      (allSlots.erase i).countP fun j => t.slots[j].any fun e => e.storeLine == some l := by
    refine List.countP_congr fun j hj => ?_
    have hne : j ≠ i := ((List.nodup_finRange 64).mem_erase_iff.mp hj).1
    rw [Table.setSlot_slots_ne t i j x hne]
  rw [Table.refs_eq_countP, Table.refs_eq_countP, hperm.countP_eq, hperm.countP_eq, List.countP_cons, List.countP_cons,
    hothers, Table.setSlot_slots_self, namedBy, namedBy]
  omega

theorem Tables.refs_set (t : Tables) (x : Table) (y : Letter) (l : LineIdx) :
    (t.set x y).refs l + (t.get y).refs l = t.refs l + x.refs l := by
  cases y <;> simp only [Tables.set, Tables.get, Tables.refs] <;> omega

theorem Tables.exclusive_iff {t : Tables} {l : LineIdx} : t.exclusive l ↔ ∀ y : Letter, (t.get y).refs l ≤ 1 := by
  refine ⟨fun h y => h.get y, fun h => ⟨h .a, h .b, h .c⟩⟩

theorem Tables.exclusive_set {t : Tables} {l : LineIdx} (h : t.exclusive l) {x : Table} (hx : x.refs l ≤ 1) (y : Letter) :
    (t.set x y).exclusive l := by
  refine Tables.exclusive_iff.mpr fun z => ?_
  by_cases hz : z = y
  · rw [hz, Tables.get_set_self]
    exact hx
  · rw [Tables.get_set_ne _ _ _ _ hz]
    exact h.get z

/-- The accounting over a write of one table: the counts follow the references of the new one. -/
theorem State.accounted.setTable {s : State} (h : s.accounted) {r : Role} {x : Table} {st : LineStore}
    {refs : LineIdx → Nat} (hst : st.counts refs) (hrefs : ∀ l, refs l + (s.table r).refs l = s.tables.refs l + x.refs l)
    (hx : ∀ l, x.refs l ≤ 1) : State.accounted { s.setTable r x with store := st } := by
  obtain ⟨-, hexcl⟩ := State.accounted_iff.mp h
  have heq : (s.setTable r x).tables.refs = refs := by
    funext l
    have h1 := hrefs l
    have h2 : (s.setTable r x).tables.refs l + (s.table r).refs l = s.tables.refs l + x.refs l :=
      s.tables.refs_set x (s.roles.letter r) l
    omega
  exact State.accounted_iff.mpr ⟨heq ▸ hst, fun l => Tables.exclusive_set (hexcl l) (hx l) _⟩

/-! ### A table keyed by line number (R2) -/

theorem Table.keyed_iff {t : Table} : t.keyed ↔
    (∀ (i j : Slot) (e f : Entry), t.slots[i] = some e → t.slots[j] = some f → e.line = f.line → i = j) ∧
    ∀ (i : Slot) (e : Entry) m l, t.slots[i] = some e → e.body = .substitute m l → m ≠ 0 := by
  constructor
  · intro h
    exact ⟨fun i j e f hi hj => h.slot_unique hi hj, fun i e m l hi => h.2 (i, e) (Table.mem_entries.mpr hi) m l⟩
  · rintro ⟨hunique, hmask⟩
    refine ⟨?_, fun x hx m l => hmask x.1 x.2 m l (Table.mem_entries.mp hx)⟩
    have hnodup : t.entries.Nodup := by
      refine (List.nodup_finRange 64).filterMap fun i j x hi hj => ?_
      obtain ⟨e, -, rfl⟩ := Option.map_eq_some_iff.mp hi
      obtain ⟨f, -, hf⟩ := Option.map_eq_some_iff.mp hj
      exact (congrArg Prod.fst hf).symm
    refine List.Nodup.map_on (fun x hx y hy hline => ?_) hnodup
    have hslot := hunique x.1 y.1 x.2 y.2 (Table.mem_entries.mp hx) (Table.mem_entries.mp hy) hline
    have hx' := Table.mem_entries.mp hx
    have hy' := Table.mem_entries.mp hy
    rw [hslot, hy'] at hx'
    exact Prod.ext hslot (Option.some.inj hx').symm

theorem Table.keyed.congr {t u : Table} (h : t.keyed) (hu : u.slots = t.slots) : u.keyed := by
  unfold Table.keyed Table.entries
  rw [hu]
  exact h

/-- An entry whose line number no other slot has may be put into a slot. -/
theorem Table.keyed.setSlot {t : Table} (h : t.keyed) {i : Slot} {e : Entry}
    (hline : ∀ (j : Slot) (f : Entry), j ≠ i → t.slots[j] = some f → f.line ≠ e.line)
    (hmask : ∀ m l, e.body = .substitute m l → m ≠ 0) : (t.setSlot i (some e)).keyed := by
  obtain ⟨hunique, hmasks⟩ := Table.keyed_iff.mp h
  have hget {j : Slot} {f : Entry} (hj : (t.setSlot i (some e)).slots[j] = some f) :
      (j = i ∧ f = e) ∨ (j ≠ i ∧ t.slots[j] = some f) := by
    by_cases hji : j = i
    · subst hji
      rw [t.setSlot_slots_self] at hj
      exact .inl ⟨rfl, (Option.some.inj hj).symm⟩
    · rw [t.setSlot_slots_ne i j _ hji] at hj
      exact .inr ⟨hji, hj⟩
  refine Table.keyed_iff.mpr ⟨fun j k f g hj hk hfg => ?_, fun j f m l hj hf => ?_⟩
  · obtain ⟨hji, hf⟩ | ⟨hji, hj'⟩ := hget hj <;> obtain ⟨hki, hg⟩ | ⟨hki, hk'⟩ := hget hk
    · rw [hji, hki]
    · exact absurd (hf ▸ hfg.symm) (hline k g hki hk')
    · exact absurd (hg ▸ hfg) (hline j f hji hj')
    · exact hunique j k f g hj' hk' hfg
  · obtain ⟨-, rfl⟩ | ⟨-, hj⟩ := hget hj
    · exact hmask m l hf
    · exact hmasks j f m l hj hf

theorem Table.keyed.setSlot_none {t : Table} (h : t.keyed) (i : Slot) : (t.setSlot i none).keyed := by
  obtain ⟨hunique, hmasks⟩ := Table.keyed_iff.mp h
  have hget {j : Slot} {e : Entry} (hj : (t.setSlot i none).slots[j] = some e) : t.slots[j] = some e := by
    by_cases hji : j = i
    · subst hji
      rw [t.setSlot_slots_self] at hj
      cases hj
    · rw [t.setSlot_slots_ne i j _ hji] at hj
      exact hj
  exact Table.keyed_iff.mpr ⟨fun j k f g hj hk => hunique j k f g (hget hj) (hget hk),
    fun j f m l hj => hmasks j f m l (hget hj)⟩

end Sys2Proof.Machine
end

section
/-! PROOF. The memory port and the agents that wait for it: which requester has a request, behind a request, a grant and
a withdrawal (R124, R130, R132). -/

namespace Sys2Proof.Machine

open Sys2Proof

set_option Elab.async false

/-- The waiting request of a requester. -/
def MemPort.waitingOf (p : MemPort) : Requester → Option PortRequest
  | .host => p.host
  | .loader => p.loader
  | .verifier => p.verifier

/-- Whose access is in progress, if it has not been given up. -/
def MemPort.serving (p : MemPort) : Option Requester :=
  p.access.bind fun a => if a.givenUp then none else some a.who

theorem MemPort.holds_eq (p : MemPort) (who : Requester) :
    p.holds who = ((p.waitingOf who).isSome || p.serving == some who) := by
  have hserving : (p.access.any fun a => a.who == who && !a.givenUp) = (p.serving == some who) := by
    unfold MemPort.serving
    cases p.access with
    | none => rfl
    | some a => cases hg : a.givenUp <;> simp [hg]
  unfold MemPort.holds
  rw [hserving]
  cases who <;> rfl

theorem MemPort.serving_eq_some {p : MemPort} {who : Requester} :
    p.serving = some who ↔ ∃ a, p.access = some a ∧ a.givenUp = false ∧ a.who = who := by
  unfold MemPort.serving
  cases p.access with
  | none => simp
  | some a => cases hg : a.givenUp <;> simp [hg]

theorem MemPort.single_iff {p : MemPort} : p.single ↔ ∀ who, p.serving = some who → p.waitingOf who = none := by
  simp only [MemPort.serving_eq_some, forall_exists_index, and_imp]
  constructor
  · rintro h who a ha hg rfl
    have hw := h a ha hg
    unfold MemPort.waitingOf
    cases hx : a.who <;> rw [hx] at hw <;> exact hw
  · intro h a ha hg
    have hw := h a.who a ha hg rfl
    unfold MemPort.waitingOf at hw
    cases hx : a.who <;> rw [hx] at hw <;> exact hw

/-- The port has one request for each requester that wants one, no other, and none waits while it is FREE. -/
structure MemPort.Carries (p : MemPort) (want : Requester → Bool) : Prop where
  single : ∀ who, p.serving = some who → p.waitingOf who = none
  idle   : p.access = none → ∀ who, p.waitingOf who = none
  holds  : ∀ who, ((p.waitingOf who).isSome || p.serving == some who) = want who

@[simp] theorem MemPort.waitingOf_start (p : MemPort) (now : Word) (who : Requester) (q : PortRequest) (x : Requester) :
    (p.start now who q).waitingOf x = p.waitingOf x := by
  cases x <;> rfl

@[simp] theorem MemPort.serving_start (p : MemPort) (now : Word) (who : Requester) (q : PortRequest) :
    (p.start now who q).serving = some who := rfl

theorem MemPort.waitingOf_setWaiting (p : MemPort) (o : Option PortRequest) (who x : Requester) :
    (p.setWaiting o who).waitingOf x = if x = who then o else p.waitingOf x := by
  cases who <;> cases x <;> rfl

@[simp] theorem MemPort.serving_setWaiting (p : MemPort) (o : Option PortRequest) (who : Requester) :
    (p.setWaiting o who).serving = p.serving := by
  cases who <;> rfl

@[simp] theorem MemPort.access_setWaiting (p : MemPort) (o : Option PortRequest) (who : Requester) :
    (p.setWaiting o who).access = p.access := by
  cases who <;> rfl

/-- The grant at a port that becomes FREE: some waiting request starts, or none waits. -/
theorem MemPort.free_cases (p : MemPort) (now : Word) :
    (∃ who q, p.waitingOf who = some q ∧
        p.free now = (MemPort.setWaiting { p with access := none } none who).start now who q) ∨
      ((∀ who, p.waitingOf who = none) ∧ p.free now = { p with access := none }) := by
  obtain ⟨hhost, hloader, hverifier, hnone⟩ := p.free_spec now
  obtain h1 | ⟨q, h1⟩ := Option.eq_none_or_eq_some p.host
  · obtain h2 | ⟨q, h2⟩ := Option.eq_none_or_eq_some p.loader
    · obtain h3 | ⟨q, h3⟩ := Option.eq_none_or_eq_some p.verifier
      · exact .inr ⟨fun who => by cases who <;> assumption, hnone h1 h2 h3⟩
      · exact .inl ⟨.verifier, q, h3, hverifier q h1 h2 h3⟩
    · exact .inl ⟨.loader, q, h2, hloader q h1 h2⟩
  · exact .inl ⟨.host, q, h1, hhost q h1⟩

section
variable {p : MemPort} {want : Requester → Bool} (h : p.Carries want)

include h

/-- A request of an agent that has none. -/
theorem MemPort.Carries.request {who : Requester} (hw : want who = false) (now : Word) (q : PortRequest) :
    (p.request now who q).Carries (Function.update want who true) := by
  have hnone := h.holds who
  rw [hw, Bool.or_eq_false_iff] at hnone
  obtain ⟨-, hserving⟩ := hnone
  unfold MemPort.request
  cases ha : p.access with
  | none =>
    have hidle := h.idle ha
    have hserve : p.serving = none := by rw [MemPort.serving, ha]; rfl
    refine ⟨fun x _ => (p.waitingOf_start now who q x).trans (hidle x), fun hn => absurd hn nofun, fun x => ?_⟩
    have hx := h.holds x
    rw [hidle x, hserve] at hx
    rw [MemPort.waitingOf_start, MemPort.serving_start, hidle x]
    by_cases hxw : x = who
    · subst hxw
      simp
    · rw [Function.update_of_ne hxw, ← hx]
      simp [Ne.symm hxw]
  | some a =>
    refine ⟨fun x hx => ?_, fun hn => ?_, fun x => ?_⟩
    · rw [MemPort.serving_setWaiting] at hx
      have hxw : x ≠ who := by
        rintro rfl
        simp [hx] at hserving
      rw [MemPort.waitingOf_setWaiting, if_neg hxw]
      exact h.single x hx
    · rw [MemPort.access_setWaiting, ha] at hn
      cases hn
    · rw [MemPort.waitingOf_setWaiting, MemPort.serving_setWaiting]
      by_cases hxw : x = who
      · subst hxw
        simp
      · rw [if_neg hxw, Function.update_of_ne hxw]
        exact h.holds x

/-- An access that ends: its requester has no request any more, unless it had given it up before; another may start. -/
theorem MemPort.Carries.free (now : Word) :
    (p.free now).Carries fun who => want who && p.serving != some who := by
  have hwait (who : Requester) : (p.waitingOf who).isSome = (want who && p.serving != some who) := by
    rw [← h.holds who]
    cases hs : p.serving == some who with
    | true =>
      rw [h.single who (beq_iff_eq.mp hs)]
      simp [beq_iff_eq.mp hs]
    | false =>
      have hne : p.serving ≠ some who := beq_eq_false_iff_ne.mp hs
      simp [hne]
  obtain ⟨x, q, hx, hfree⟩ | ⟨hnone, hfree⟩ := p.free_cases now
  · rw [hfree]
    refine ⟨fun y hy => ?_, fun hn => absurd hn nofun, fun y => ?_⟩
    · rw [MemPort.serving_start] at hy
      cases hy
      rw [MemPort.waitingOf_start, MemPort.waitingOf_setWaiting, if_pos rfl]
    · rw [MemPort.waitingOf_start, MemPort.serving_start, MemPort.waitingOf_setWaiting, ← hwait y]
      by_cases hyx : y = x
      · subst hyx
        simp [hx]
      · rw [if_neg hyx]
        have hsame : MemPort.waitingOf { p with access := none } y = p.waitingOf y := by cases y <;> rfl
        simp [hsame, Ne.symm hyx]
  · rw [hfree]
    have hsame (y : Requester) : MemPort.waitingOf { p with access := none } y = p.waitingOf y := by cases y <;> rfl
    refine ⟨fun y _ => (hsame y).trans (hnone y), fun _ y => (hsame y).trans (hnone y), fun y => ?_⟩
    rw [hsame, ← hwait y]
    simp [MemPort.serving]

/-- A withdrawal: the requester has no request any more (R132). -/
theorem MemPort.Carries.giveUp (who : Requester) : (p.giveUp who).Carries (Function.update want who false) := by
  have hwait (x : Requester) : (p.giveUp who).waitingOf x = if x = who then none else p.waitingOf x := by
    have hset := p.waitingOf_setWaiting none who x
    cases x <;> exact hset
  have hserve : (p.giveUp who).serving = if p.serving = some who then none else p.serving := by
    unfold MemPort.giveUp MemPort.serving
    cases p.access with
    | none => simp
    | some a => by_cases hw : a.who = who <;> cases hg : a.givenUp <;> simp [hw, hg]
  refine ⟨fun x hx => ?_, fun hn x => ?_, fun x => ?_⟩
  · rw [hwait]
    split
    · rfl
    · rw [hserve] at hx
      split at hx
      · cases hx
      · exact h.single x hx
  · rw [hwait]
    split
    · rfl
    · exact h.idle (Option.map_eq_none_iff.mp hn) x
  · rw [hwait, hserve]
    by_cases hx : x = who
    · subst hx
      rw [if_pos rfl, Function.update_self]
      split
      · rfl
      · simp [*]
    · rw [if_neg hx, Function.update_of_ne hx, ← h.holds x]
      split
      · have hne : p.serving ≠ some x := by simp [*, Ne.symm hx]
        simp [hne]
      · rfl

/-- Steps of the time base and ready timeouts leave the requests alone. -/
theorem MemPort.Carries.congr {q : MemPort} (hwait : ∀ who, q.waitingOf who = p.waitingOf who)
    (hserve : q.serving = p.serving) (hacc : q.access = none → p.access = none) : q.Carries want :=
  ⟨fun who hw => (hwait who).trans (h.single who (hserve ▸ hw)), fun hn who => (hwait who).trans (h.idle (hacc hn) who),
    fun who => by rw [hwait, hserve]; exact h.holds who⟩

end

/-! ### The agents of the part (R124, R130, R131) -/

/-- The agents that wait for memory. -/
def State.waits (s : State) : Requester → Bool
  | .host => s.inFlight
  | .loader => s.scu.state == .loading
  | .verifier => s.scu.verifier.isSome

theorem State.portFits_iff {s : State} : s.portFits ↔ s.port.Carries s.waits := by
  constructor
  · rintro ⟨hsingle, hidle, hhost, hloader, hverifier⟩
    refine ⟨MemPort.single_iff.mp hsingle, fun ha who => ?_, fun who => ?_⟩
    · obtain ⟨h1, h2, h3⟩ := hidle ha
      cases who <;> assumption
    · rw [← MemPort.holds_eq]
      cases who <;> assumption
  · rintro ⟨hsingle, hidle, hholds⟩
    refine ⟨MemPort.single_iff.mpr hsingle, fun ha => ⟨hidle ha .host, hidle ha .loader, hidle ha .verifier⟩, ?_, ?_, ?_⟩
    · rw [MemPort.holds_eq]
      exact hholds .host
    · rw [MemPort.holds_eq]
      exact hholds .loader
    · rw [MemPort.holds_eq]
      exact hholds .verifier

/-- The agents that have a request at the port: those that wait, but for one whose request has just ended or has not come
yet. -/
def State.waitsBut (s : State) (off : Option Requester) (who : Requester) : Bool := s.waits who && off != some who

theorem State.waitsBut_none (s : State) : s.waitsBut none = s.waits := by
  funext who
  simp [State.waitsBut]

/-- The request of the agent that lacked one. -/
theorem MemPort.Carries.request_off {s : State} {who : Requester} (h : s.port.Carries (s.waitsBut (some who)))
    (hw : s.waits who = true) (now : Word) (q : PortRequest) : (s.port.request now who q).Carries s.waits := by
  have hreq := h.request (who := who) (by simp [State.waitsBut]) now q
  have heq : Function.update (s.waitsBut (some who)) who true = s.waits := by
    funext x
    by_cases hx : x = who
    · subst hx
      rw [Function.update_self, hw]
    · rw [Function.update_of_ne hx]
      simp [State.waitsBut, Ne.symm hx]
  exact heq ▸ hreq

end Sys2Proof.Machine
end

section
/-! PROOF. The invariants of the part taken apart by the state of the staged set, and what an operation keeps that leaves
the staged set, the loader, the host and the port alone. -/

namespace Sys2Proof.Machine

open Sys2Proof

set_option Elab.async false

/-! ### The staged set, the loader, the verification and the commit, by the staged-set state -/

/-- Who starts the verification chained from a load of this kind (R88). -/
def LoadKind.starter : LoadKind → VerifyStarter
  | .command => .commandLoad
  | .startUp => .startUpLoad

/-- No set has taken effect yet: the tables of the roles ACTIVE and RETAINED have generation 0. -/
def State.unset (s : State) : Prop := (s.table .active).generation = 0 ∧ (s.table .retained).generation = 0

/-- The loader waits for the commit of its start-up load. -/
def State.loadCommits (s : State) : Prop :=
  s.loader.state = .commit ∧ s.loader.kind = .startUp ∧ headerTest s.loader.header = none ∧ s.unset

/-- Neither loader nor verifier nor commit is at work. -/
def State.quiet (s : State) : Prop :=
  s.loader.state = .idle ∧ s.scu.verifier = none ∧ s.scu.commit = none ∧ s.scu.deferred = none

/-- A load is in HEADER or BODY. -/
def State.loads (s : State) : Prop :=
  (s.loader.state = .header ∨ (s.loader.state = .body ∧ headerTest s.loader.header = none)) ∧
  (s.loader.kind = .startUp → s.unset) ∧ s.scu.verifier = none ∧ s.scu.commit = none ∧ s.scu.deferred = none ∧
  s.revertWaits = false

/-- A verification by this starter is in progress; the loader waits for it where it is chained from a load. -/
def State.verifies (s : State) (starter : VerifyStarter) : Prop :=
  s.scu.commit = none ∧ s.scu.deferred = none ∧
  ((s.loader.state = .idle ∧ starter = .verifySet) ∨
    (s.loader.state = .verify ∧ headerTest s.loader.header = none ∧ (s.loader.kind = .startUp → s.unset) ∧
      starter = s.loader.kind.starter))

/-- A verified set: nothing is at work, or a start-up commit is deferred behind a waiting REVERT. -/
def State.rests (s : State) : Prop :=
  s.scu.verifier = none ∧ s.scu.commit = none ∧
  ((s.loader.state = .idle ∧ s.scu.deferred = none) ∨
    (s.loadCommits ∧ s.revertWaits = true ∧ ∃ a, s.scu.deferred = some a ∧ a.fits))

/-- The items of a pending commit under the tables as they stand (R59, R60). -/
def State.mayPend (s : State) (pc : PendingCommit) : Prop :=
  (s.table .active).generation < (s.table .staged).generation ∧ pc.args.fits ∧
  (pc.args.mode = .atBoundary → pc.deadline = none) ∧ (pc.gateOpen = true → pc.args.mode = .gated ∧ pc.deadline = none)

/-- A commit pends, of COMMIT or of the start-up load. -/
def State.pends (s : State) : Prop :=
  s.scu.verifier = none ∧ s.scu.deferred = none ∧ s.revertWaits = false ∧
  ∃ pc, s.scu.commit = some pc ∧ s.mayPend pc ∧
    ((s.loader.state = .idle ∧ pc.requester = .service) ∨ (s.loadCommits ∧ pc.requester = .startUp))

/-- Loader, verification and commit are as the staged-set state has them. -/
def State.phaseFits (s : State) : Prop :=
  match s.scu.state with
  | .empty => s.quiet
  | .opened => s.quiet
  | .loading => s.loads
  | .sealed => s.quiet
  | .verifying => ∃ v, s.scu.verifier = some v ∧ v.passed < (s.table .staged).count ∧ s.verifies v.starter
  | .verified => s.rests
  | .failed => s.quiet
  | .commitPending => s.pends

theorem State.startUpInHand_iff {s : State} :
    s.startUpInHand = true ↔ s.loader.state ≠ .idle ∧ s.loader.kind = .startUp := by
  simp [State.startUpInHand]

theorem State.phaseFits_of_controlled {s : State} (h : s.controlled) : s.phaseFits := by
  obtain ⟨-, -, ⟨hloading, hheader, hverify, hcommit, hunset⟩, ⟨hverifier, hpassed, hstarter⟩,
    ⟨hpending, hpc, hdeferred, hargs, hrevert⟩⟩ := h
  have hunset' (hne : s.loader.state ≠ .idle) (hk : s.loader.kind = .startUp) : s.unset :=
    hunset (State.startUpInHand_iff.mpr ⟨hne, hk⟩)
  have hnoVerifier (hne : s.scu.state ≠ .verifying) : s.scu.verifier = none :=
    Option.not_isSome_iff_eq_none.mp fun hs => hne (hverifier.mp hs)
  have hnoCommit (hne : s.scu.state ≠ .commitPending) : s.scu.commit = none :=
    Option.not_isSome_iff_eq_none.mp fun hs => hne (hpending.mp hs)
  have hnoDeferred (hne : s.scu.state ≠ .verified) : s.scu.deferred = none :=
    Option.not_isSome_iff_eq_none.mp fun hs => hne (hdeferred hs).1
  have hidle (h1 : s.scu.state ≠ .loading) (h2 : s.scu.state ≠ .verifying)
      (h3 : ¬ (s.scu.state = .commitPending ∨ s.scu.deferred.isSome = true)) : s.loader.state = .idle := by
    cases hl : s.loader.state with
    | idle => rfl
    | header => exact absurd (hloading.mp (.inl hl)) h1
    | body => exact absurd (hloading.mp (.inr hl)) h1
    | verify => exact absurd (hverify hl) h2
    | commit => exact absurd (hcommit hl).2 h3
  have hquiet (h1 : s.scu.state ≠ .loading) (h2 : s.scu.state ≠ .verifying) (h3 : s.scu.state ≠ .verified)
      (h4 : s.scu.state ≠ .commitPending) : s.quiet :=
    ⟨hidle h1 h2 (by simp [h4, hnoDeferred h3]), hnoVerifier h2, hnoCommit h4, hnoDeferred h3⟩
  unfold State.phaseFits
  cases hst : s.scu.state with
  | empty => exact hquiet (by simp [hst]) (by simp [hst]) (by simp [hst]) (by simp [hst])
  | opened => exact hquiet (by simp [hst]) (by simp [hst]) (by simp [hst]) (by simp [hst])
  | sealed => exact hquiet (by simp [hst]) (by simp [hst]) (by simp [hst]) (by simp [hst])
  | failed => exact hquiet (by simp [hst]) (by simp [hst]) (by simp [hst]) (by simp [hst])
  | loading =>
    have hstate := hloading.mpr hst
    have hbusy : s.loader.state ≠ .idle := by
      rintro hi
      obtain h | h := hstate <;> exact absurd (hi.symm.trans h) nofun
    have hrw : s.revertWaits = false := Bool.eq_false_iff.mpr fun hw => (hrevert hw).2 hst
    refine ⟨hstate.imp id fun hb => ⟨hb, hheader hbusy ?_⟩, hunset' hbusy, hnoVerifier (by simp [hst]),
      hnoCommit (by simp [hst]), hnoDeferred (by simp [hst]), hrw⟩
    rw [hb]
    exact nofun
  | verifying =>
    obtain ⟨v, hv⟩ := Option.isSome_iff_exists.mp (hverifier.mpr hst)
    have hdef := hnoDeferred (by simp [hst])
    refine ⟨v, hv, hpassed v hv, hnoCommit (by simp [hst]), hdef, ?_⟩
    have hs := hstarter v hv
    cases hl : s.loader.state with
    | idle => exact .inl ⟨rfl, by rw [hs, hl]⟩
    | header => exact absurd (hloading.mp (.inl hl)) (by simp [hst])
    | body => exact absurd (hloading.mp (.inr hl)) (by simp [hst])
    | commit => exact absurd (hcommit hl).2 (by simp [hst, hdef])
    | verify =>
      refine .inr ⟨rfl, hheader (by simp [hl]) (by simp [hl]), hunset' (by simp [hl]), ?_⟩
      rw [hs, hl]
      cases s.loader.kind <;> rfl
  | verified =>
    refine ⟨hnoVerifier (by simp [hst]), hnoCommit (by simp [hst]), ?_⟩
    cases hd : s.scu.deferred with
    | none => exact .inl ⟨hidle (by simp [hst]) (by simp [hst]) (by simp [hst, hd]), rfl⟩
    | some a =>
      obtain ⟨-, hl, hw⟩ := hdeferred (by simp [hd])
      have hkind := (hcommit hl).1
      exact .inr ⟨⟨hl, hkind, hheader (by simp [hl]) (by simp [hl]), hunset' (by simp [hl]) hkind⟩, hw, a, rfl, hargs a hd⟩
  | commitPending =>
    have hrw : s.revertWaits = false := Bool.eq_false_iff.mpr fun hw => (hrevert hw).1 hst
    obtain ⟨pc, hc⟩ := Option.isSome_iff_exists.mp (hpending.mpr hst)
    obtain ⟨hwho, hgen, hfits, hdeadline, hopen⟩ := hpc pc hc
    have hdef := hnoDeferred (by simp [hst])
    refine ⟨hnoVerifier (by simp [hst]), hdef, hrw, pc, hc, ⟨hgen, hfits, hdeadline, hopen⟩, ?_⟩
    cases hr : pc.requester with
    | startUp =>
      have hl := hwho.mp hr
      have hkind := (hcommit hl).1
      exact .inr ⟨⟨hl, hkind, hheader (by simp [hl]) (by simp [hl]), hunset' (by simp [hl]) hkind⟩, rfl⟩
    | service =>
      refine .inl ⟨?_, rfl⟩
      cases hl : s.loader.state with
      | idle => rfl
      | header => exact absurd (hloading.mp (.inl hl)) (by simp [hst])
      | body => exact absurd (hloading.mp (.inr hl)) (by simp [hst])
      | verify => exact absurd (hverify hl) (by simp [hst])
      | commit => exact absurd ((hwho.mpr hl).symm.trans hr) nofun

/-- The invariants of the tables, the store and the host, and the set record of the staged set. -/
structure State.Base (s : State) : Prop where
  distinct  : s.roles.distinct
  record    : s.scu.state.recordFits (s.table .staged)
  keyed     : ∀ y : Letter, (s.tables.get y).keyed
  accounted : s.accounted
  heldIdle  : s.heldIdle
  txnFits   : s.txnFits

theorem State.controlled_of_phaseFits {s : State} (hb : s.Base) (h : s.phaseFits) : s.controlled := by
  refine ⟨hb.distinct, hb.record, ?_⟩
  unfold State.phaseFits at h
  have hidle (hi : s.loader.state = .idle) : s.startUpInHand = false := by simp [State.startUpInHand, hi]
  have hquiet (hq : s.quiet) (h1 : s.scu.state ≠ .loading) (h2 : s.scu.state ≠ .verifying)
      (h3 : s.scu.state ≠ .commitPending) : s.loaderFits ∧ s.verifierFits ∧ s.commitFits := by
    obtain ⟨hi, hv, hc, hd⟩ := hq
    simp [State.loaderFits, State.verifierFits, State.commitFits, hi, hv, hc, hd, h1, h2, h3, hidle hi]
  cases hst : s.scu.state <;> rw [hst] at h
  case empty => exact hquiet h (by simp [hst]) (by simp [hst]) (by simp [hst])
  case opened => exact hquiet h (by simp [hst]) (by simp [hst]) (by simp [hst])
  case sealed => exact hquiet h (by simp [hst]) (by simp [hst]) (by simp [hst])
  case failed => exact hquiet h (by simp [hst]) (by simp [hst]) (by simp [hst])
  case loading =>
    obtain ⟨hstate, hunset, hv, hc, hd, hrw⟩ := h
    refine ⟨⟨?_, ?_, ?_, ?_, fun hin => hunset (State.startUpInHand_iff.mp hin).2⟩, ?_, ?_⟩
    · simp only [hst, iff_true]
      exact hstate.imp id And.left
    · obtain hl | ⟨hl, ht⟩ := hstate
      · exact fun _ hne => absurd hl hne
      · exact fun _ _ => ht
    · obtain hl | ⟨hl, -⟩ := hstate <;> simp [hl]
    · obtain hl | ⟨hl, -⟩ := hstate <;> simp [hl]
    · simp [State.verifierFits, hv, hst]
    · simp [State.commitFits, hc, hd, hst, hrw]
  case verifying =>
    obtain ⟨v, hv, hpassed, hc, hd, hl⟩ := h
    have hcommit : s.commitFits := by simp [State.commitFits, hc, hd, hst]
    obtain ⟨hl, hs⟩ | ⟨hl, ht, hunset, hs⟩ := hl
    · refine ⟨?_, ?_, hcommit⟩
      · simp [State.loaderFits, hl, hst, hidle hl]
      · simp [State.verifierFits, hv, hst, hl, hs, hpassed]
    · refine ⟨?_, ?_, hcommit⟩
      · simp [State.loaderFits, hl, hst, ht]
        exact fun hin => hunset (State.startUpInHand_iff.mp hin).2
      · refine ⟨by simp [hv, hst], fun w hw => Option.some.inj (hv.symm.trans hw) ▸ hpassed, fun w hw => ?_⟩
        rw [← Option.some.inj (hv.symm.trans hw), hs, hl]
        cases s.loader.kind <;> rfl
  case verified =>
    obtain ⟨hv, hc, hrest⟩ := h
    have hverifier : s.verifierFits := by simp [State.verifierFits, hv, hst]
    obtain ⟨hl, hd⟩ | ⟨⟨hl, hk, ht, hunset⟩, hrw, a, hd, hfits⟩ := hrest
    · refine ⟨?_, hverifier, ?_⟩
      · simp [State.loaderFits, hl, hst, hidle hl]
      · simp [State.commitFits, hc, hd, hst]
    · refine ⟨⟨?_, ?_, ?_, ?_, fun _ => hunset⟩, hverifier, ?_⟩
      · simp [hl, hst]
      · exact fun _ _ => ht
      · simp [hl]
      · simp [hk, hd]
      · refine ⟨by simp [hc, hst], by simp [hc], fun _ => ⟨hst, hl, hrw⟩, fun b hb' => ?_, by simp [hst]⟩
        exact Option.some.inj (hd.symm.trans hb') ▸ hfits
  case commitPending =>
    obtain ⟨hv, hd, hrw, pc, hc, ⟨hgen, hargs, hdeadline, hopen⟩, hwho⟩ := h
    have hverifier : s.verifierFits := by simp [State.verifierFits, hv, hst]
    have hcommit (hreq : pc.requester = .startUp ↔ s.loader.state = .commit) : s.commitFits := by
      refine ⟨by simp [hc, hst], fun p hp => ?_, by simp [hd], by simp [hd], by simp [hrw]⟩
      rw [← Option.some.inj (hc.symm.trans hp)]
      exact ⟨hreq, hgen, hargs, hdeadline, hopen⟩
    obtain ⟨hl, hr⟩ | ⟨⟨hl, hk, ht, hunset⟩, hr⟩ := hwho
    · refine ⟨?_, hverifier, hcommit (by simp [hl, hr])⟩
      simp [State.loaderFits, hl, hst, hidle hl]
    · refine ⟨⟨?_, ?_, ?_, ?_, fun _ => hunset⟩, hverifier, hcommit (by simp [hl, hr])⟩
      · simp [hl, hst]
      · exact fun _ _ => ht
      · simp [hl]
      · simp [hk, hst]

/-- The invariants, with one agent whose request at the port has just ended or has not come yet. -/
structure State.Fits (s : State) (off : Option Requester) : Prop where
  base  : s.Base
  phase : s.phaseFits
  port  : s.port.Carries (s.waitsBut off)

theorem State.wf_iff {s : State} : s.wf ↔ s.Fits none := by
  constructor
  · rintro ⟨hcontrolled, ⟨ha, hb, hc⟩, haccounted, hheld, htxn, hport⟩
    have ⟨hdistinct, hrecord, _⟩ := hcontrolled
    refine ⟨⟨hdistinct, hrecord, fun y => ?_, haccounted, hheld, htxn⟩, State.phaseFits_of_controlled hcontrolled, ?_⟩
    · cases y
      · exact ha
      · exact hb
      · exact hc
    · rw [State.waitsBut_none]
      exact State.portFits_iff.mp hport
  · rintro ⟨hbase, hphase, hport⟩
    rw [State.waitsBut_none] at hport
    exact ⟨State.controlled_of_phaseFits hbase hphase, ⟨hbase.keyed .a, hbase.keyed .b, hbase.keyed .c⟩, hbase.accounted,
      hbase.heldIdle, hbase.txnFits, State.portFits_iff.mpr hport⟩

/-! ### What leaves the staged set, the loader, the host and the port alone -/

/-- The tables and their roles, the SCU, the loader, the port, the executing command and the transaction are as they were;
a hold may have been lifted; and the line store is accounted for if it was before. -/
structure State.Alike (s t : State) : Prop where
  state     : t.hbi.state = s.hbi.state
  held      : t.hbi.held = true → s.hbi.held = true
  tables    : t.tables = s.tables
  roles     : t.roles = s.roles
  scu       : t.scu = s.scu
  loader    : t.loader = s.loader
  port      : t.port = s.port
  executing : t.svp.executing = s.svp.executing
  accounted : s.accounted → t.accounted

@[refl] theorem State.Alike.refl (s : State) : s.Alike s := ⟨rfl, id, rfl, rfl, rfl, rfl, rfl, rfl, id⟩

@[trans] theorem State.Alike.trans {s t u : State} (h : s.Alike t) (g : t.Alike u) : s.Alike u where
  state := g.state.trans h.state
  held := h.held ∘ g.held
  tables := g.tables.trans h.tables
  roles := g.roles.trans h.roles
  scu := g.scu.trans h.scu
  loader := g.loader.trans h.loader
  port := g.port.trans h.port
  executing := g.executing.trans h.executing
  accounted := g.accounted ∘ h.accounted

section
variable {s t : State} (h : s.Alike t)

include h

theorem State.Alike.table (r : Role) : t.table r = s.table r := by
  unfold State.table
  rw [h.tables, h.roles]

theorem State.Alike.revertWaits : t.revertWaits = s.revertWaits := by
  unfold State.revertWaits
  rw [h.executing]

theorem State.Alike.inFlight : t.inFlight = s.inFlight := by
  unfold State.inFlight
  rw [h.state]

theorem State.Alike.waits : t.waits = s.waits := by
  funext who
  unfold State.waits
  rw [h.inFlight, h.scu]

theorem State.Alike.base (hs : s.Base) : t.Base where
  distinct := h.roles ▸ hs.distinct
  record := by
    rw [h.scu, h.table]
    exact hs.record
  keyed := h.tables ▸ hs.keyed
  accounted := h.accounted hs.accounted
  heldIdle := fun hh => h.inFlight.trans (hs.heldIdle (h.held hh))
  txnFits := by
    have htxn := hs.txnFits
    unfold State.txnFits State.matchedEntry at htxn ⊢
    rw [h.state, h.roles, h.table, h.tables]
    exact htxn

theorem State.Alike.phase (hs : s.phaseFits) : t.phaseFits := by
  unfold State.phaseFits State.quiet State.loads State.verifies State.rests State.pends State.loadCommits State.mayPend
    State.unset at hs ⊢
  rw [h.scu, h.loader, h.revertWaits, h.table, h.table, h.table]
  exact hs

theorem State.Alike.waitsBut (off : Option Requester) : t.waitsBut off = s.waitsBut off := by
  funext who
  unfold State.waitsBut
  rw [h.waits]

theorem State.Alike.fits {off : Option Requester} (hs : s.Fits off) : t.Fits off where
  base := h.base hs.base
  phase := h.phase hs.phase
  port := by
    rw [h.port, h.waitsBut]
    exact hs.port

end

theorem State.raise_alike (s : State) (src : EventSource) (d : Word) : s.Alike (s.raise src d) :=
  ⟨rfl, id, rfl, rfl, rfl, rfl, rfl, rfl, id⟩

theorem State.raiseAll_alike (s : State) (rs : List (EventSource × Word)) : s.Alike (s.raiseAll rs) := by
  induction rs generalizing s with
  | nil => exact .refl s
  | cons r rs ih => exact (s.raise_alike r.1 r.2).trans (ih _)

theorem State.traceTake_alike (s : State) (b : TraceBody) (f : Bool) : s.Alike (s.traceTake b f) := by
  have htake : s.Alike { s with trace := (s.trace.take b f).1 } := ⟨rfl, id, rfl, rfl, rfl, rfl, rfl, rfl, id⟩
  unfold State.traceTake
  dsimp only
  split
  · exact htake
  · exact htake.trans (State.raise_alike _ _ _)

theorem State.traceReport_alike (s : State) (r : EndReport) : s.Alike (s.traceReport r) := by
  unfold State.traceReport
  split
  · exact s.traceTake_alike _ _
  · exact .refl s

theorem State.traceMarker_alike (s : State) (m : Marker) : s.Alike (s.traceMarker m) := by
  unfold State.traceMarker
  split
  · exact s.traceTake_alike _ _
  · exact .refl s

theorem State.recordWith_alike (s : State) {record : State → State} (h : ∀ x : State, x.Alike (record x))
    (rs : List (EventSource × Word)) : s.Alike (s.recordWith record rs) := by
  have hcount : s.Alike { s with orderChoices := s.orderChoices + 1 } := ⟨rfl, id, rfl, rfl, rfl, rfl, rfl, rfl, id⟩
  unfold State.recordWith
  split
  · split
    · exact (hcount.trans (h _)).trans (State.raiseAll_alike _ rs)
    · exact (hcount.trans (State.raiseAll_alike _ rs)).trans (h _)
  · exact (h s).trans (State.raiseAll_alike _ rs)

theorem State.strobe_alike (s : State) (x : HostStrobe) : s.Alike (s.strobe x) := ⟨rfl, id, rfl, rfl, rfl, rfl, rfl, rfl, id⟩

theorem State.respond_alike (s : State) (tag : Byte) (r : ResultCode) (p : List Byte) : s.Alike (s.respond tag r p) :=
  ⟨rfl, id, rfl, rfl, rfl, rfl, rfl, rfl, id⟩

theorem State.taken_alike (s : State) (rest : List QueuedCommand) : s.Alike (s.taken rest) :=
  ⟨rfl, id, rfl, rfl, rfl, rfl, rfl, rfl, id⟩

/-- Another line store that follows the same references. -/
theorem State.setStore_alike {s : State} {st : LineStore} (h : s.store.counts s.tables.refs → st.counts s.tables.refs) :
    s.Alike { s with store := st } :=
  ⟨rfl, id, rfl, rfl, rfl, rfl, rfl, rfl, fun ha => by
    obtain ⟨hcounts, hexcl⟩ := State.accounted_iff.mp ha
    exact State.accounted_iff.mpr ⟨h hcounts, hexcl⟩⟩

theorem State.upset_alike (s : State) (us : List Upset) : s.Alike (s.upset us) := by
  obtain ⟨hlines, hfree, hbad, -⟩ := s.store.upset_frame us
  exact State.setStore_alike fun h => h.congr hlines hfree hbad

/-- A line with a reference may be marked (R23). -/
theorem State.lineFailed_alike {s : State} {l : LineIdx} (h : s.tables.refs l ≠ 0) : s.Alike (s.lineFailed l) := by
  unfold State.lineFailed
  split
  · exact .refl s
  · exact (State.setStore_alike fun hs => hs.mark h).trans (State.raise_alike _ _ _)

/-- A line that an entry of a role's table names has a reference. -/
theorem State.refs_ne_zero (s : State) {r : Role} {i : Slot} {e : Entry} {l : LineIdx} (hi : (s.table r).slots[i] = some e)
    (hl : e.storeLine = some l) : s.tables.refs l ≠ 0 := by
  have hpos := Table.refs_pos hi hl
  have hle := s.tables.refs_get_le (s.roles.letter r) l
  show s.tables.refs l ≠ 0
  unfold State.table at hpos
  omega

end Sys2Proof.Machine
end

section
/-! PROOF. The host side keeps the invariants: the end of a transaction, the serving of its beats, acceptance and the ends
of its accesses (R114 to R118). -/

namespace Sys2Proof.Machine

open Sys2Proof

set_option Elab.async false

/-! ### A change that the staged set, the loader and the commit do not see -/

/-- Loader, verification and commit look at generations and at the count of the staged set only. -/
theorem State.phaseFits.congr {s t : State} (h : s.phaseFits) (hscu : t.scu = s.scu) (hloader : t.loader = s.loader)
    (hrevert : t.revertWaits = s.revertWaits) (hgen : ∀ r, (t.table r).generation = (s.table r).generation)
    (hcount : (t.table .staged).count = (s.table .staged).count) : t.phaseFits := by
  unfold State.phaseFits State.quiet State.loads State.verifies State.rests State.pends State.loadCommits State.mayPend
    State.unset at h ⊢
  rw [hscu, hloader, hrevert, hcount, hgen, hgen, hgen]
  exact h

/-! ### A counted hit (R15) -/

/-- The same entries, but for their hit counts. -/
structure Table.Recount (t u : Table) : Prop where
  entries : ∀ i : Slot, u.slots[i].map (fun e => (e.line, e.body)) = t.slots[i].map fun e => (e.line, e.body)

@[refl] theorem Table.Recount.refl (t : Table) : t.Recount t := ⟨fun _ => rfl⟩

section
variable {t u : Table} (h : t.Recount u)

include h

theorem Table.Recount.of_some {i : Slot} {e : Entry} (hi : t.slots[i] = some e) :
    ∃ f, u.slots[i] = some f ∧ f.line = e.line ∧ f.body = e.body := by
  have hmap := h.entries i
  rw [hi, Option.map_some, Option.map_eq_some_iff] at hmap
  obtain ⟨f, hf, heq⟩ := hmap
  exact ⟨f, hf, congrArg Prod.fst heq, congrArg Prod.snd heq⟩

theorem Table.Recount.some_of {i : Slot} {f : Entry} (hi : u.slots[i] = some f) :
    ∃ e, t.slots[i] = some e ∧ f.line = e.line ∧ f.body = e.body := by
  have hmap := h.entries i
  rw [hi, Option.map_some, eq_comm, Option.map_eq_some_iff] at hmap
  obtain ⟨e, he, heq⟩ := hmap
  exact ⟨e, he, (congrArg Prod.fst heq).symm, (congrArg Prod.snd heq).symm⟩

theorem Table.Recount.refs (l : LineIdx) : u.refs l = t.refs l := by
  refine Table.refs_congr (fun i => ?_) l
  cases ht : t.slots[i] with
  | none =>
    have hmap := h.entries i
    rw [ht, Option.map_none, Option.map_eq_none_iff] at hmap
    rw [hmap]
  | some e =>
    obtain ⟨f, hf, -, hbody⟩ := h.of_some ht
    rw [hf, Option.map_some, Option.map_some, Entry.storeLine, Entry.storeLine, hbody]

theorem Table.Recount.keyed (hk : t.keyed) : u.keyed := by
  obtain ⟨hunique, hmask⟩ := Table.keyed_iff.mp hk
  refine Table.keyed_iff.mpr ⟨fun i j f g hf hg hline => ?_, fun i f m l hf hbody => ?_⟩
  · obtain ⟨e, he, hel, -⟩ := h.some_of hf
    obtain ⟨d, hd, hdl, -⟩ := h.some_of hg
    exact hunique i j e d he hd (hel.symm.trans (hline.trans hdl))
  · obtain ⟨e, he, -, heb⟩ := h.some_of hf
    exact hmask i e m l he (heb.symm.trans hbody)

end

/-- Tables with the same entries but for the hit counts in the active one. -/
theorem State.Fits.recount {s : State} {off : Option Requester} {ts : Tables} (h : s.Fits off)
    (hsame : ∀ y, (s.tables.get y).Recount (ts.get y))
    (hgeneration : ∀ y, (ts.get y).generation = (s.tables.get y).generation)
    (hothers : ∀ y, y ≠ s.roles.active → ts.get y = s.tables.get y) :
    State.Fits { s with tables := ts } off := by
  obtain ⟨⟨hdistinct, hrecord, hkeyed, hacc, hheld, htxn⟩, hphase, hport⟩ := h
  have hrefs : ts.refs = s.tables.refs := by
    funext l
    have ha := (hsame .a).refs l
    have hb := (hsame .b).refs l
    have hc := (hsame .c).refs l
    simp only [Tables.get] at ha hb hc
    simp only [Tables.refs, ha, hb, hc]
  have hstaged : State.table { s with tables := ts } .staged = s.table .staged := hothers _ hdistinct.1.symm
  have hgen (r : Role) : (State.table { s with tables := ts } r).generation = (s.table r).generation := hgeneration _
  obtain ⟨hcounts, hexcl⟩ := State.accounted_iff.mp hacc
  refine ⟨⟨hdistinct, ?_, fun y => (hsame y).keyed (hkeyed y), ?_, hheld, ?_⟩, ?_, hport⟩
  · rw [hstaged]
    exact hrecord
  · refine State.accounted_iff.mpr ⟨hrefs ▸ hcounts, fun l => Tables.exclusive_iff.mpr fun y => ?_⟩
    rw [(hsame y).refs]
    exact (hexcl l).get y
  · unfold State.txnFits at htxn ⊢
    dsimp only
    cases hst : s.hbi.state with
    | idle => trivial
    | waiting r => trivial
    | inFlight t =>
      rw [hst] at htxn
      obtain ⟨hletter, hnumber, hdone, hplan, hslot, hlines⟩ := htxn
      refine ⟨hletter, hnumber.trans (hgen _).symm, hdone, hplan, fun i hi => ?_, fun b hb l hl => ?_⟩
      · obtain ⟨e, he⟩ := Option.isSome_iff_exists.mp (hslot i hi)
        obtain ⟨f, hf, -⟩ := (hsame _).of_some he
        exact Option.isSome_iff_exists.mpr ⟨f, hf⟩
      · obtain ⟨e, he, hline⟩ := hlines b hb l hl
        unfold State.matchedEntry at he ⊢
        cases hs : t.dec.slot with
        | none =>
          rw [hs] at he
          cases he
        | some i =>
          rw [hs] at he
          obtain ⟨f, hf, -, hbody⟩ := (hsame _).of_some he
          refine ⟨f, hf, ?_⟩
          rw [Entry.storeLine, hbody]
          exact hline
  · exact hphase.congr rfl rfl rfl hgen (congrArg Table.count hstaged)

/-- A counted hit changes a hit count of the table it was matched in. -/
theorem State.countHit_fits {s : State} {off : Option Requester} {d : Decision} (h : s.Fits off)
    (hd : d.letter = s.roles.active) : (s.countHit d).Fits off := by
  unfold State.countHit
  split
  · rename_i i e hslot hmatched
    split
    · unfold State.matchedEntry at hmatched
      rw [hslot] at hmatched
      refine h.recount (fun y => ?_) (fun y => ?_) fun y hy => Tables.get_set_ne _ _ _ _ (hd ▸ hy)
      · by_cases hy : y = d.letter
        · rw [hy, Tables.get_set_self]
          refine ⟨fun j => ?_⟩
          by_cases hj : j = i
          · rw [hj, Table.setSlot_slots_self]
            exact (congrArg (Option.map fun e : Entry => (e.line, e.body)) hmatched).symm
          · rw [Table.setSlot_slots_ne _ _ _ _ hj]
        · rw [Tables.get_set_ne _ _ _ _ hy]
      · by_cases hy : y = d.letter
        · rw [hy, Tables.get_set_self]
          rfl
        · rw [Tables.get_set_ne _ _ _ _ hy]
    · exact h
  · exact h

/-! ### The end of a transaction (R112, R118) -/

/-- A commit that pends is that of COMMIT_PENDING (R59). -/
theorem State.phaseFits.pends {s : State} (h : s.phaseFits) {pc : PendingCommit} (hpc : s.scu.commit = some pc) :
    s.scu.state = .commitPending := by
  have hnone (hn : s.scu.commit = none) : False := Option.some_ne_none pc (hpc.symm.trans hn)
  unfold State.phaseFits at h
  cases hst : s.scu.state <;> rw [hst] at h
  case empty => exact (hnone h.2.2.1).elim
  case opened => exact (hnone h.2.2.1).elim
  case sealed => exact (hnone h.2.2.1).elim
  case failed => exact (hnone h.2.2.1).elim
  case loading =>
    obtain ⟨-, -, -, hn, -⟩ := h
    exact (hnone hn).elim
  case verifying =>
    obtain ⟨v, -, -, hn, -⟩ := h
    exact (hnone hn).elim
  case verified =>
    obtain ⟨-, hn, -⟩ := h
    exact (hnone hn).elim

/-- What a pending commit comes with. -/
theorem State.phaseFits.pending {s : State} (h : s.phaseFits) (hst : s.scu.state = .commitPending) : s.pends := by
  unfold State.phaseFits at h
  rw [hst] at h
  exact h

/-- The gate test opens the gate of a GATED commit only, and stops its timer (R63, R64). -/
theorem State.gateTest_fits {s : State} {off : Option Requester} (h : s.Fits off) (d : Decision) (okay : Bool) :
    (s.gateTest d okay).Fits off := by
  unfold State.gateTest
  split
  · exact h
  · rename_i pc hpc
    split
    · rename_i hopen
      obtain ⟨hopen, -⟩ := Bool.and_eq_true_iff.mp hopen
      have hgated : pc.args.mode = .gated := by
        simp only [opensGate, Bool.and_eq_true, beq_iff_eq] at hopen
        obtain ⟨⟨⟨⟨⟨⟨hmode, -⟩, -⟩, -⟩, -⟩, -⟩, -⟩ := hopen
        exact hmode
      obtain ⟨⟨hdistinct, hrecord, hkeyed, hacc, hheld, htxn⟩, hphase, hport⟩ := h
      have hst := hphase.pends hpc
      obtain ⟨hv, hdef, hrw, pc', hpc', ⟨hgen, hfits, -, -⟩, hwho⟩ := hphase.pending hst
      obtain rfl : pc = pc' := Option.some.inj (hpc.symm.trans hpc')
      refine ⟨⟨hdistinct, hrecord, hkeyed, hacc, hheld, htxn⟩, ?_, hport⟩
      unfold State.phaseFits
      dsimp only
      rw [hst]
      exact ⟨hv, hdef, hrw, _, rfl, ⟨hgen, hfits, fun hm => absurd (hgated.symm.trans hm) nofun, fun _ => ⟨hgated, rfl⟩⟩, hwho⟩
    · exact h

theorem State.txnFits_of_idle {s : State} (h : s.inFlight = false) : s.txnFits := by
  unfold State.txnFits
  cases hst : s.hbi.state with
  | idle => trivial
  | waiting r => trivial
  | inFlight t =>
    rw [State.inFlight, hst] at h
    cases h

theorem State.inFlight_leaveFlight (s : State) : s.leaveFlight.inFlight = false := by
  unfold State.leaveFlight State.inFlight
  cases s.hbi.nextRequest <;> rfl

/-- The boundary: no transaction is in flight, and the host has no request at the port. -/
theorem State.leaveFlight_fits {s : State} (h : s.Fits (some .host)) : s.leaveFlight.Fits none := by
  obtain ⟨⟨hdistinct, hrecord, hkeyed, hacc, hheld, -⟩, hphase, hport⟩ := h
  have hout := s.inFlight_leaveFlight
  refine ⟨⟨hdistinct, hrecord, hkeyed, hacc, fun _ => hout, State.txnFits_of_idle hout⟩,
    hphase.congr rfl rfl rfl (fun _ => rfl) rfl, ?_⟩
  have hwaits : s.leaveFlight.waitsBut none = s.waitsBut (some .host) := by
    rw [State.waitsBut_none]
    funext who
    cases who
    · exact hout.trans (by simp [State.waitsBut])
    · show s.waits .loader = _
      simp [State.waitsBut]
    · show s.waits .verifier = _
      simp [State.waitsBut]
  rw [hwaits]
  exact hport

theorem State.endTransaction_fits {s : State} (h : s.Fits (some .host)) {d : Decision} (hd : d.letter = s.roles.active)
    (okay : Bool) (outcome : TxnOutcome) (before : List (EventSource × Word)) :
    (s.endTransaction d okay outcome before).Fits none := by
  have hstrobed : s.Alike (if okay then s else s.strobe errorStrobe) := by
    split
    · exact .refl s
    · exact s.strobe_alike _
  have hcounted := State.countHit_fits (hstrobed.fits h) (hd.trans (congrArg Roles.active hstrobed.roles).symm)
  unfold State.endTransaction
  dsimp only
  exact State.leaveFlight_fits (State.gateTest_fits ((State.recordWith_alike _ (fun x => x.traceReport_alike _) _).fits
    hcounted) d okay)

/-! ### Serving the beats (R116) -/

/-- A transaction with this decision record is in flight, and no request of the host is at the port. -/
structure State.Serves (s : State) (d : Decision) : Prop where
  fits   : s.Fits (some .host)
  flight : ∃ t, s.hbi.state = .inFlight t ∧ t.dec = d

section
variable {s : State} {d : Decision} (h : s.Serves d)

include h

theorem State.Serves.alike {u : State} (hu : s.Alike u) : u.Serves d :=
  ⟨hu.fits h.fits, h.flight.imp fun _ ht => ⟨hu.state.trans ht.1, ht.2⟩⟩

/-- What the invariant says about the decision record. -/
theorem State.Serves.decision : d.letter = s.roles.active ∧ d.generation = (s.table .active).generation ∧
    (d.write = false → d.plan.length = beatCount d.len) ∧ (∀ i ∈ d.slot, ((s.table .active).slots[i]).isSome) ∧
    (∀ b ∈ d.plan, ∀ l, b = .store l → ∃ e ∈ s.matchedEntry d, e.storeLine = some l) := by
  obtain ⟨t, ht, rfl⟩ := h.flight
  have htxn := h.fits.base.txnFits
  unfold State.txnFits at htxn
  rw [ht] at htxn
  obtain ⟨hletter, hgen, -, hplan, hslot, hlines⟩ := htxn
  exact ⟨hletter, hgen, hplan, hslot, hlines⟩

theorem State.Serves.end (okay : Bool) (outcome : TxnOutcome) (before : List (EventSource × Word)) :
    (s.endTransaction d okay outcome before).Fits none := by
  obtain ⟨hletter, -⟩ := h.decision
  exact State.endTransaction_fits h.fits hletter okay outcome before

/-- A line that the plan names has a reference. -/
theorem State.Serves.refs_ne_zero {l : LineIdx} (hl : .store l ∈ d.plan) : s.tables.refs l ≠ 0 := by
  obtain ⟨hletter, -, -, -, hlines⟩ := h.decision
  obtain ⟨e, he, hline⟩ := hlines _ hl l rfl
  unfold State.matchedEntry at he
  cases hs : d.slot with
  | none =>
    rw [hs] at he
    cases he
  | some i =>
    rw [hs, hletter] at he
    exact s.refs_ne_zero (r := .active) he hline

/-- The beat at hand waits for its access. -/
theorem State.Serves.awaitBeat (t : Txn) (ht : t.dec = d) (hdone : t.done < beatCount d.len) (q : PortRequest) :
    (s.awaitBeat t q).Fits none := by
  obtain ⟨t0, ht0, -⟩ := h.flight
  have hin : s.inFlight = true := by rw [State.inFlight, ht0]
  have ⟨hletter, hgen, hplan, hslot, hlines⟩ := h.decision
  subst ht
  obtain ⟨⟨hdistinct, hrecord, hkeyed, hacc, hheld, -⟩, hphase, hport⟩ := h.fits
  refine ⟨⟨hdistinct, hrecord, hkeyed, hacc, fun hh => absurd (hin.symm.trans (hheld hh)) nofun, ?_⟩,
    hphase.congr rfl rfl rfl (fun _ => rfl) rfl, ?_⟩
  · exact ⟨hletter, hgen, hdone, hplan, hslot, hlines⟩
  · have hwaits : (s.awaitBeat t q).waits = s.waits := by
      funext who
      cases who
      · exact hin.symm
      · rfl
      · rfl
    rw [State.waitsBut_none, hwaits]
    exact hport.request_off hin s.timeBase q

end

/-- A read served beat by beat comes to its end or to an access. -/
theorem State.serveRead_fits (bs : List BeatSource) (t : Txn) (s : State) (h : s.Serves t.dec)
    (hw : t.dec.write = false) (hbs : bs = t.dec.plan.drop t.done) : (s.serveRead bs t).Fits none := by
  induction bs generalizing t s with
  | nil => exact h.end true _ []
  | cons b rest ih =>
    obtain ⟨-, -, hplan, -⟩ := h.decision
    have hlength := congrArg List.length hbs
    rw [List.length_drop, hplan hw, List.length_cons] at hlength
    have hdone : t.done < beatCount t.dec.len := by omega
    have hmem : b ∈ t.dec.plan := List.mem_of_mem_drop (hbs ▸ List.mem_cons_self ..)
    unfold State.serveRead
    cases b with
    | memory => exact h.awaitBeat t rfl hdone _
    | target ce target => exact h.awaitBeat t rfl hdone _
    | store l =>
      dsimp only
      split
      · exact h.awaitBeat { t with fellBack := true } rfl hdone _
      · split
        · refine ih _ _ (h.alike (State.strobe_alike _ _)) hw ?_
          have htail := congrArg List.tail hbs
          rw [List.tail_cons, List.tail_drop] at htail
          exact htail
        · exact (h.alike (State.lineFailed_alike (h.refs_ne_zero hmem))).awaitBeat { t with fellBack := true } rfl hdone _

/-- A write served beat by beat comes to its end or to an access. -/
theorem State.serveWrite_fits (n : Nat) (t : Txn) (s : State) (h : s.Serves t.dec)
    (hn : n + t.done = beatCount t.dec.len) : (s.serveWrite n t).Fits none := by
  induction n generalizing t s with
  | zero => exact h.end true _ []
  | succ n ih =>
    unfold State.serveWrite
    split
    · refine ih _ _ (h.alike (State.strobe_alike _ _)) ?_
      show n + (t.done + 1) = beatCount t.dec.len
      omega
    · exact h.awaitBeat t rfl (by omega) _

theorem State.serve_fits {s : State} {t : Txn} (h : s.Serves t.dec) (hdone : t.done = 0) : (s.serve t).Fits none := by
  unfold State.serve
  split
  · exact h.end false _ []
  · split
    · split
      · exact h.end false _ []
      · exact s.serveWrite_fits _ t h (by omega)
    · rename_i hw
      exact s.serveRead_fits _ t h (Bool.eq_false_iff.mpr hw) (by rw [hdone, List.drop_zero])

/-! ### Acceptance and the ends of host accesses (R114, R116, R128) -/

/-- The state in which a request has been accepted and no beat served. -/
theorem State.accepted_serves {s : State} {r : HostRequest} (h : s.Fits none) (hidle : s.inFlight = false)
    (hheld : s.hbi.held = false) (t : Txn) (ht : t.dec = s.decisionFor r) (hdone : t.done = 0) :
    State.Serves { s with hbi := { s.hbi with state := .inFlight t, strobes := [] } } t.dec := by
  obtain ⟨⟨hdistinct, hrecord, hkeyed, hacc, -, -⟩, hphase, hport⟩ := h
  refine ⟨⟨⟨hdistinct, hrecord, hkeyed, hacc, fun hh => absurd (hh.symm.trans hheld) nofun, ?_⟩, hphase, ?_⟩, t, rfl, rfl⟩
  · have hlen : (s.decisionFor r).len = r.len := rfl
    refine ⟨congrArg Decision.letter ht, congrArg Decision.generation ht, ?_, fun hw => ?_, fun i hi => ?_, fun b hb l hl => ?_⟩
    · obtain h | h | h | h : beatCount t.dec.len = 1 ∨ beatCount t.dec.len = 2 ∨ beatCount t.dec.len = 4 ∨
          beatCount t.dec.len = 8 := by simpa using beatCount_mem t.dec.len
      all_goals omega
    · rw [ht] at hw ⊢
      rw [s.decisionFor_plan hw, planFor, List.length_map, List.length_range, hlen]
    · rw [ht, s.decisionFor_slot, Option.mem_def] at hi
      split at hi
      · obtain ⟨e, he, -⟩ := Table.slot_of_find hi
        exact Option.isSome_iff_exists.mpr ⟨e, he⟩
      · cases hi
    · subst hl
      rw [ht] at hb ⊢
      cases hw : r.write with
      | true =>
        have hplan : (s.decisionFor r).plan = [] := if_pos hw
        rw [hplan] at hb
        cases hb
      | false =>
        rw [s.decisionFor_plan hw] at hb
        obtain ⟨f, mask, hf, hbody⟩ := planFor_store_mem hb
        exact ⟨f, hf, by rw [Entry.storeLine, hbody]⟩
  · have hwaits : State.waitsBut { s with hbi := { s.hbi with state := .inFlight t, strobes := [] } } (some .host) =
        s.waitsBut none := by
      rw [State.waitsBut_none]
      funext who
      cases who
      · exact (Bool.and_false _).trans hidle.symm
      · exact Bool.and_true _
      · exact Bool.and_true _
    rw [hwaits]
    exact hport

theorem State.Fits.whenUp {s : State} {f : State → State} (h : s.Fits none) (hf : (f s).Fits none) :
    (s.whenUp f).Fits none := by
  unfold State.whenUp
  split
  · exact h
  · exact hf

/-- The waiting request is accepted and served (R114, R116). -/
theorem execAcceptance_fits {s t : State} {us : List Upset} (h : s.Fits none) (hexec : execAcceptance us s = .next t) :
    t.Fits none := by
  obtain rfl := Host.Outcome.next.inj hexec
  refine h.whenUp ?_
  dsimp only
  split
  · rename_i r hst
    split
    · rename_i hacc
      have hheld : s.hbi.held = false := by
        simp only [State.accepts, Bool.and_eq_true, Bool.not_eq_true'] at hacc
        exact hacc.1
      have hserves := State.accepted_serves h (by rw [State.inFlight, hst]) hheld
        { dec := s.decisionFor r, done := 0, fellBack := false, writes := r.writes } rfl rfl
      exact State.serve_fits (hserves.alike (State.upset_alike _ us)) rfl
    · exact h
  · exact h

/-- A host access has completed: the transaction goes on with its next beat. -/
theorem State.hostWord_fits {s : State} (h : s.Fits (some .host)) (hin : s.inFlight = true) (md : Word) :
    (s.hostWord md).Fits none := by
  unfold State.hostWord
  split
  · rename_i t ht
    have hserves : s.Serves t.dec := ⟨h, t, ht, rfl⟩
    have htxn := h.base.txnFits
    unfold State.txnFits at htxn
    rw [ht] at htxn
    obtain ⟨-, -, hdone, -⟩ := htxn
    dsimp only
    split
    · refine State.serveWrite_fits _ t.next _ (hserves.alike (State.strobe_alike _ _)) ?_
      show beatCount t.dec.len - (t.done + 1) + (t.done + 1) = beatCount t.dec.len
      omega
    · rename_i hw
      exact State.serveRead_fits _ { t with done := t.done + 1 } _ (hserves.alike (State.strobe_alike _ _))
        (Bool.eq_false_iff.mpr hw) rfl
  · rename_i hno
    rw [State.inFlight] at hin
    split at hin
    · exact absurd ‹_› (hno _)
    · cases hin

/-- A host access has failed: the transaction ends. -/
theorem State.hostFailed_fits {s : State} (h : s.Fits (some .host)) (hin : s.inFlight = true)
    (raises : List (EventSource × Word)) : (s.hostFailed raises).Fits none := by
  unfold State.hostFailed
  split
  · rename_i t ht
    exact State.Serves.end ⟨h, t, ht, rfl⟩ false _ raises
  · rename_i hno
    rw [State.inFlight] at hin
    split at hin
    · exact absurd ‹_› (hno _)
    · cases hin

/-! ### Requests (R111, R112) -/

/-- The state of the HBI between transactions, and the request at the pins, are free. -/
theorem State.Fits.setHbi {s : State} {off : Option Requester} (h : s.Fits off) (x : Hbi) (hheld : x.held = s.hbi.held)
    (hstate : x.state = s.hbi.state ∨ (s.inFlight = false ∧ State.inFlight { s with hbi := x } = false)) :
    State.Fits { s with hbi := x } off := by
  obtain ⟨⟨hdistinct, hrecord, hkeyed, hacc, hheldIdle, htxn⟩, hphase, hport⟩ := h
  have hin : State.inFlight { s with hbi := x } = s.inFlight := by
    obtain hst | ⟨hidle, hst⟩ := hstate
    · unfold State.inFlight
      dsimp only
      rw [hst]
    · exact hst.trans hidle.symm
  refine ⟨⟨hdistinct, hrecord, hkeyed, hacc, fun hh => hin.trans (hheldIdle (hheld ▸ hh)), ?_⟩,
    hphase.congr rfl rfl rfl (fun _ => rfl) rfl, ?_⟩
  · obtain hst | ⟨-, hst⟩ := hstate
    · unfold State.txnFits at htxn ⊢
      dsimp only
      rw [hst]
      exact htxn
    · exact State.txnFits_of_idle hst
  · have hwaits : State.waitsBut { s with hbi := x } off = s.waitsBut off := by
      funext who
      unfold State.waitsBut
      cases who
      · exact congrArg (· && _) hin
      · rfl
      · rfl
    rw [hwaits]
    exact hport

theorem execHostRequest_fits {s t : State} {r : HostRequest} (h : s.Fits none) (hexec : execHostRequest r s = .next t) :
    t.Fits none := by
  obtain rfl := Host.Outcome.next.inj hexec
  refine h.whenUp ?_
  dsimp only
  split
  · rename_i hst
    exact h.setHbi { s.hbi with state := .waiting r } rfl (.inr ⟨by rw [State.inFlight, hst], rfl⟩)
  · exact h
  · exact h.setHbi { s.hbi with nextRequest := some r } rfl (.inl rfl)

theorem execRequestWithdrawn_fits {s t : State} (h : s.Fits none) (hexec : execRequestWithdrawn s = .next t) :
    t.Fits none := by
  obtain rfl := Host.Outcome.next.inj hexec
  refine h.whenUp ?_
  dsimp only
  split
  · exact h
  · rename_i hst
    exact h.setHbi { s.hbi with state := .idle } rfl (.inr ⟨by rw [State.inFlight, hst], rfl⟩)
  · exact h.setHbi { s.hbi with nextRequest := none } rfl (.inl rfl)

end Sys2Proof.Machine
end

section
/-! PROOF. Changes of a table that is not active, of the staged set's state and of the agents at work on it: what the
invariants ask of the new table and of the new state. -/

namespace Sys2Proof.Machine

open Sys2Proof

set_option Elab.async false

/-- The table with role `r` is now `x`; the roles, the port, the executing command and the transaction are as they were,
and a hold may have been lifted. -/
structure State.Writes (s t : State) (r : Role) (x : Table) : Prop where
  tables    : t.tables = s.tables.set x (s.roles.letter r)
  roles     : t.roles = s.roles
  state     : t.hbi.state = s.hbi.state
  held      : t.hbi.held = true → s.hbi.held = true
  port      : t.port = s.port
  executing : t.svp.executing = s.svp.executing

theorem Tables.set_get_self (t : Tables) (y : Letter) : t.set (t.get y) y = t := by cases y <;> rfl

theorem State.endStartUpLoad_held (s : State) : s.endStartUpLoad.hbi.held = true → s.hbi.held = true := by
  unfold State.endStartUpLoad
  dsimp only
  split
  · exact nofun
  · exact id

theorem State.endStartUpLoad_state (s : State) : s.endStartUpLoad.hbi.state = s.hbi.state := by
  unfold State.endStartUpLoad
  dsimp only
  split <;> rfl

section
variable {s t : State} {r : Role} {x : Table} (h : s.Writes t r x)

include h

theorem State.Writes.alike {u : State} (hu : t.Alike u) : s.Writes u r x where
  tables := hu.tables.trans h.tables
  roles := hu.roles.trans h.roles
  state := hu.state.trans h.state
  held := h.held ∘ hu.held
  port := hu.port.trans h.port
  executing := hu.executing.trans h.executing

theorem State.Writes.endStartUpLoad : s.Writes t.endStartUpLoad r x where
  tables := h.tables
  roles := h.roles
  state := t.endStartUpLoad_state.trans h.state
  held := h.held ∘ t.endStartUpLoad_held
  port := h.port
  executing := h.executing

theorem State.Writes.self : t.table r = x := by
  unfold State.table
  rw [h.tables, h.roles, Tables.get_set_self]

theorem State.Writes.other (hd : s.roles.distinct) {q : Role} (hq : q ≠ r) : t.table q = s.table q := by
  unfold State.table
  rw [h.tables, h.roles, Tables.get_set_ne _ _ _ _ (Roles.letter_ne _ hd _ _ hq)]

theorem State.Writes.inFlight : t.inFlight = s.inFlight := by
  unfold State.inFlight
  rw [h.state]

theorem State.Writes.revertWaits : t.revertWaits = s.revertWaits := by
  unfold State.revertWaits
  rw [h.executing]

theorem State.Writes.unset (hd : s.roles.distinct) (hr : r = .staged) : t.unset ↔ s.unset := by
  subst hr
  unfold State.unset
  rw [h.other (q := .active) hd nofun, h.other (q := .retained) hd nofun]

/-- The new table meets what is asked of every table, and the transaction does not see it. -/
theorem State.Writes.base (hs : s.Base) (hr : r ≠ .active) (hrecord : t.scu.state.recordFits (t.table .staged))
    (hkeyed : x.keyed) (hacc : t.accounted) : t.Base where
  distinct := h.roles ▸ hs.distinct
  record := hrecord
  keyed := fun y => by
    rw [h.tables]
    by_cases hy : y = s.roles.letter r
    · rw [hy, Tables.get_set_self]
      exact hkeyed
    · rw [Tables.get_set_ne _ _ _ _ hy]
      exact hs.keyed y
  accounted := hacc
  heldIdle := fun hh => h.inFlight.trans (hs.heldIdle (h.held hh))
  txnFits := by
    have hact := h.other hs.distinct hr.symm
    have htxn := hs.txnFits
    unfold State.txnFits at htxn ⊢
    rw [h.state, h.roles, hact]
    cases hst : s.hbi.state with
    | idle => trivial
    | waiting q => trivial
    | inFlight u =>
      rw [hst] at htxn
      obtain ⟨hletter, hgen, hdone, hplan, hslot, hlines⟩ := htxn
      refine ⟨hletter, hgen, hdone, hplan, hslot, fun b hb l hl => ?_⟩
      have hne : s.roles.active ≠ s.roles.letter r := Roles.letter_ne _ hs.distinct .active r hr.symm
      have hsame : t.matchedEntry u.dec = s.matchedEntry u.dec := by
        unfold State.matchedEntry
        rw [hletter, h.tables, Tables.get_set_ne _ _ _ _ hne]
      rw [hsame]
      exact hlines b hb l hl

/-- The agents at the port, where the SCU has the same ones at work. -/
theorem State.Writes.waitsBut (off : Option Requester) (hload : t.scu.state = .loading ↔ s.scu.state = .loading)
    (hver : t.scu.verifier.isSome = s.scu.verifier.isSome) : t.waitsBut off = s.waitsBut off := by
  have hwaits : t.waits = s.waits := by
    funext who
    cases who with
    | host => exact h.inFlight
    | loader => exact Bool.eq_iff_iff.mpr (by simpa [State.waits] using hload)
    | verifier => exact hver
  funext who
  rw [State.waitsBut, State.waitsBut, hwaits]

/-- The accounting follows where the references of the new table do. -/
theorem State.Writes.accounted {refs : LineIdx → Nat} (ha : s.accounted) (hst : t.store.counts refs)
    (hrefs : ∀ l, refs l + (s.table r).refs l = s.tables.refs l + x.refs l) (hx : ∀ l, x.refs l ≤ 1) : t.accounted := by
  have hset := ha.setTable hst hrefs hx
  obtain ⟨-, hexcl⟩ := State.accounted_iff.mp hset
  refine State.accounted_iff.mpr ?_
  rw [h.tables]
  exact State.accounted_iff.mp hset

/-- The same lines in the new table, and the same store. -/
theorem State.Writes.accounted_of_same (ha : s.accounted) (hst : t.store = s.store) (hx : ∀ l, x.refs l = (s.table r).refs l) :
    t.accounted := by
  have ⟨hcounts, hexcl⟩ := State.accounted_iff.mp ha
  refine h.accounted ha (hst.symm ▸ hcounts) (fun l => by rw [hx]) fun l => ?_
  rw [hx]
  exact (hexcl l).get _

/-- No lines in the new table, and the lines of the old one released. -/
theorem State.Writes.accounted_of_released (ha : s.accounted) (hst : t.store = s.store.releaseTable (s.table r))
    (hx : ∀ l, x.refs l = 0) : t.accounted := by
  have ⟨hcounts, hexcl⟩ := State.accounted_iff.mp ha
  have hle := fun l => s.tables.refs_get_le (s.roles.letter r) l
  refine h.accounted ha (hst.symm ▸ hcounts.releaseTable (t := s.table r) (fun l => (hexcl l).get _) hle) (fun l => ?_) fun l => ?_
  · have := hle l
    rw [hx]
    show s.tables.refs l - (s.tables.get (s.roles.letter r)).refs l + (s.tables.get (s.roles.letter r)).refs l = _
    omega
  · rw [hx]
    exact Nat.zero_le 1

end

/-- The tables as they were. -/
theorem State.Writes.same {s t : State} (htables : t.tables = s.tables) (hroles : t.roles = s.roles)
    (hstate : t.hbi.state = s.hbi.state) (hheld : t.hbi.held = true → s.hbi.held = true) (hport : t.port = s.port)
    (hexec : t.svp.executing = s.svp.executing) : s.Writes t .staged (s.table .staged) :=
  ⟨htables.trans (Tables.set_get_self _ _).symm, hroles, hstate, hheld, hport, hexec⟩

/-! ### The agents, where tables and roles change -/

/-- A commit that is deferred behind a REVERT comes with a verified set and a start-up load that waits for it. -/
theorem State.phaseFits.deferred {s : State} (h : s.phaseFits) {c : CommitArgs} (hc : s.scu.deferred = some c) :
    s.scu.state = .verified ∧ s.scu.verifier = none ∧ s.scu.commit = none ∧ s.loadCommits ∧ s.revertWaits = true ∧ c.fits := by
  have hnone (hn : s.scu.deferred = none) : False := Option.some_ne_none c (hc.symm.trans hn)
  unfold State.phaseFits at h
  cases hst : s.scu.state <;> rw [hst] at h
  case empty => exact (hnone h.2.2.2).elim
  case opened => exact (hnone h.2.2.2).elim
  case sealed => exact (hnone h.2.2.2).elim
  case failed => exact (hnone h.2.2.2).elim
  case loading =>
    obtain ⟨-, -, -, -, hn, -⟩ := h
    exact (hnone hn).elim
  case verifying =>
    obtain ⟨v, -, -, -, hn, -⟩ := h
    exact (hnone hn).elim
  case commitPending =>
    obtain ⟨-, hn, -⟩ := h
    exact (hnone hn).elim
  case verified =>
    obtain ⟨hv, hcommit, ⟨-, hn⟩ | ⟨hl, hrw, b, hb, hfits⟩⟩ := h
    · exact (hnone hn).elim
    · exact ⟨rfl, hv, hcommit, hl, hrw, Option.some.inj (hb.symm.trans hc) ▸ hfits⟩

/-- Tables, roles and a waiting REVERT under an unchanged SCU and loader. -/
theorem State.phaseFits.carry {s t : State} (h : s.phaseFits) (hscu : t.scu = s.scu) (hloader : t.loader = s.loader)
    (hunset : s.unset → t.unset) (hcount : (t.table .staged).count = (s.table .staged).count)
    (hpend : s.scu.state = .commitPending →
      (t.table .active).generation = (s.table .active).generation ∧
        (t.table .staged).generation = (s.table .staged).generation)
    (hrevert : t.revertWaits = s.revertWaits ∨ (s.scu.deferred = none ∧
      (t.revertWaits = true → s.scu.state ≠ .loading ∧ s.scu.state ≠ .commitPending))) : t.phaseFits := by
  have hidle (h1 : s.scu.state = .loading ∨ s.scu.state = .commitPending) (h2 : s.revertWaits = false) :
      t.revertWaits = false := by
    obtain hr | ⟨-, hr⟩ := hrevert
    · rw [hr, h2]
    · refine Bool.eq_false_iff.mpr fun hw => ?_
      obtain ⟨hl, hp⟩ := hr hw
      exact h1.elim hl hp
  have hcommits (hl : s.loadCommits) : t.loadCommits := by
    obtain ⟨h1, h2, h3, h4⟩ := hl
    unfold State.loadCommits
    rw [hloader]
    exact ⟨h1, h2, h3, hunset h4⟩
  have hquiet (hq : s.quiet) : t.quiet := by
    unfold State.quiet at hq ⊢
    rw [hscu, hloader]
    exact hq
  unfold State.phaseFits at h ⊢
  rw [hscu]
  cases hst : s.scu.state <;> rw [hst] at h
  case empty => exact hquiet h
  case opened => exact hquiet h
  case sealed => exact hquiet h
  case failed => exact hquiet h
  case loading =>
    obtain ⟨hl, hun, hv, hc, hd, hrw⟩ := h
    unfold State.loads
    rw [hscu, hloader]
    exact ⟨hl, fun hk => hunset (hun hk), hv, hc, hd, hidle (.inl hst) hrw⟩
  case verifying =>
    obtain ⟨v, hv, hpassed, hc, hd, hl⟩ := h
    refine ⟨v, hv, hcount ▸ hpassed, ?_⟩
    unfold State.verifies
    rw [hscu, hloader]
    exact ⟨hc, hd, hl.imp id fun ⟨h1, h2, h3, h4⟩ => ⟨h1, h2, fun hk => hunset (h3 hk), h4⟩⟩
  case verified =>
    obtain ⟨hv, hc, hrest⟩ := h
    unfold State.rests
    rw [hscu, hloader]
    refine ⟨hv, hc, ?_⟩
    obtain hi | ⟨hl, hw, b, hb, hfits⟩ := hrest
    · exact .inl hi
    · obtain hr | ⟨hn, -⟩ := hrevert
      · exact .inr ⟨hcommits hl, hr.trans hw, b, hb, hfits⟩
      · exact absurd (hb.symm.trans hn) nofun
  case commitPending =>
    obtain ⟨hv, hd, hrw, pc, hpc, ⟨hgen, hrest⟩, hwho⟩ := h
    obtain ⟨hact, hstaged⟩ := hpend hst
    unfold State.pends
    rw [hscu, hloader]
    refine ⟨hv, hd, hidle (.inr hst) hrw, pc, hpc, ⟨by rw [hact, hstaged]; exact hgen, hrest⟩, hwho.imp id fun ⟨hl, hr⟩ => ⟨hcommits hl, hr⟩⟩

end Sys2Proof.Machine
end

section
/-! PROOF. Commit, commit gate and revert keep the invariants (R59 to R76). -/

namespace Sys2Proof.Machine

open Sys2Proof

set_option Elab.async false

/-! ### Quiet states -/

/-- A state of the staged set in which neither a load nor a verification nor a commit need be in hand. -/
def StagedState.still (st : StagedState) : Prop := st ≠ .loading ∧ st ≠ .verifying ∧ st ≠ .commitPending

theorem State.phaseFits_of_quiet {s : State} (h : s.quiet) (hst : s.scu.state.still) : s.phaseFits := by
  obtain ⟨h1, h2, h3⟩ := hst
  unfold State.phaseFits
  cases hs : s.scu.state with
  | empty => exact h
  | opened => exact h
  | sealed => exact h
  | failed => exact h
  | loading => exact absurd hs h1
  | verifying => exact absurd hs h2
  | commitPending => exact absurd hs h3
  | verified =>
    obtain ⟨hl, hv, hc, hd⟩ := h
    exact ⟨hv, hc, .inl ⟨hl, hd⟩⟩

/-- Without a load and a verification no agent but the host waits for memory. -/
theorem State.waits_of_quiet {s t : State} (hin : t.inFlight = s.inFlight) (hs1 : s.scu.state ≠ .loading)
    (ht1 : t.scu.state ≠ .loading) (hver : t.scu.verifier.isSome = s.scu.verifier.isSome) (off : Option Requester) :
    t.waitsBut off = s.waitsBut off := by
  funext who
  unfold State.waitsBut
  congr 1
  cases who with
  | host => exact hin
  | loader => exact (beq_eq_false_iff_ne.mpr ht1).trans (beq_eq_false_iff_ne.mpr hs1).symm
  | verifier => exact hver

theorem State.inFlight_endStartUpLoad (s : State) : s.endStartUpLoad.inFlight = s.inFlight := by
  unfold State.inFlight
  rw [s.endStartUpLoad_state]

theorem State.Base.endStartUpLoad {s : State} (h : s.Base) : s.endStartUpLoad.Base where
  distinct := h.distinct
  record := h.record
  keyed := h.keyed
  accounted := h.accounted
  heldIdle := fun hh => s.inFlight_endStartUpLoad.trans (h.heldIdle (s.endStartUpLoad_held hh))
  txnFits := by
    have htxn := h.txnFits
    unfold State.txnFits at htxn ⊢
    rw [s.endStartUpLoad_state]
    exact htxn

/-! ### The effect point (R67, R68) -/

/-- A pending commit that is not the loader's leaves the loader idle. -/
theorem State.pends.idle {s : State} {pc : PendingCommit} (h : s.pends) (hpc : s.scu.commit = some pc)
    (hwho : pc.isStartUp = false) : s.loader.state = .idle := by
  obtain ⟨-, -, -, qc, hqc, -, ⟨hl, -⟩ | ⟨-, hr⟩⟩ := h
  · exact hl
  · obtain rfl := Option.some.inj (hpc.symm.trans hqc)
    rw [PendingCommit.isStartUp, hr] at hwho
    cases hwho

/-- The effect point fails: the set is FAILED, and a start-up load is over. -/
theorem State.commitBadLine_fits {s : State} {pc : PendingCommit} (h : s.Fits none) (hpc : s.scu.commit = some pc) :
    (s.commitBadLine pc).Fits none := by
  have hst := h.phase.pends hpc
  have hpends := h.phase.pending hst
  have ⟨hv, hd, _⟩ := hpends
  have hrec := h.base.record
  rw [hst] at hrec
  let x : Table := { s.table .staged with result := .badLine }
  have hfinal {t : State} (hw : s.Writes t .staged x) (hstore : t.store = s.store)
      (hscu : t.scu = { s.scu with state := .failed, commit := none }) (hidle : t.loader.state = .idle) : t.Fits none := by
    refine ⟨hw.base h.base nofun ?_ ((h.base.keyed _).congr rfl) (hw.accounted_of_same h.base.accounted hstore fun _ => rfl),
      State.phaseFits_of_quiet ⟨hidle, ?_, ?_, ?_⟩ ?_, ?_⟩
    · rw [hw.self, hscu]
      exact ⟨hrec.1, nofun, nofun⟩
    · rw [hscu]
      exact hv
    · rw [hscu]
    · rw [hscu]
      exact hd
    · rw [hscu]
      exact ⟨nofun, nofun, nofun⟩
    · rw [hw.port, State.waits_of_quiet hw.inFlight (by rw [hst]; nofun) (by rw [hscu]; nofun) (by rw [hscu])]
      exact h.port
  have hw : s.Writes (State.raise { s.setTable .staged x with scu := { s.scu with state := .failed, commit := none } }
      .commitResult (detailBytes 1 0 (s.table .staged).generation)) .staged x := ⟨rfl, rfl, rfl, id, rfl, rfl⟩
  unfold State.commitBadLine
  dsimp only
  cases hwho : pc.isStartUp with
  | true => exact hfinal (State.Writes.endStartUpLoad (hw.alike (State.raise_alike _ _ _))) rfl rfl rfl
  | false => exact hfinal hw rfl rfl (hpends.idle hpc hwho)

/-- The roles rotate at a boundary: the staged set is EMPTY, and a start-up load is over. -/
theorem State.commitDone_fits {s : State} {pc : PendingCommit} (h : s.Fits none) (hpc : s.scu.commit = some pc)
    (hin : s.inFlight = false) : (s.commitDone pc).Fits none := by
  have hst := h.phase.pends hpc
  have hpends := h.phase.pending hst
  have ⟨hv, hd, _⟩ := hpends
  have hw : s.Writes (s.releaseRole .retained) .retained Table.empty := ⟨rfl, rfl, rfl, id, rfl, rfl⟩
  have hacc := hw.accounted_of_released h.base.accounted rfl Table.refs_empty
  have hrotated : (s.rotate).Base := by
    obtain ⟨h1, h2, h3⟩ := h.base.distinct
    refine ⟨⟨h3, h1.symm, h2.symm⟩, hw.self, fun y => ?_, hacc, h.base.heldIdle, State.txnFits_of_idle hin⟩
    show ((s.tables.set Table.empty (s.roles.letter .retained)).get y).keyed
    by_cases hy : y = s.roles.letter .retained
    · rw [hy, Tables.get_set_self]
      exact Table.keyed_empty
    · rw [Tables.get_set_ne _ _ _ _ hy]
      exact h.base.keyed y
  let marker : Marker :=
    { kind := .commit
      newGeneration := (s.table .staged).generation
      oldGeneration := (s.table .active).generation
      letter := s.roles.staged }
  have hrecorded := State.recordWith_alike s.rotate (fun x => x.traceMarker_alike marker)
    [(.commitResult, detailBytes 0 0 (s.table .staged).generation)]
  have hfinal {t : State} (hbase : t.Base) (hin' : t.inFlight = false) (hscu : t.scu = s.rotate.scu)
      (hport : t.port = s.port) (hidle : t.loader.state = .idle) : t.Fits none := by
    refine ⟨hbase, State.phaseFits_of_quiet ⟨hidle, ?_, ?_, ?_⟩ ?_, ?_⟩
    · rw [hscu]
      exact hv
    · rw [hscu]
      rfl
    · rw [hscu]
      exact hd
    · rw [hscu]
      exact ⟨nofun, nofun, nofun⟩
    · rw [hport, State.waits_of_quiet (hin'.trans hin.symm) (by rw [hst]; nofun) (by rw [hscu]; nofun) (by rw [hscu]; rfl)]
      exact h.port
  unfold State.commitDone
  dsimp only
  have hbase := hrecorded.base hrotated
  have hin' := hrecorded.inFlight.trans hin
  cases hwho : pc.isStartUp with
  | true =>
    exact hfinal (State.Base.endStartUpLoad hbase) ((State.inFlight_endStartUpLoad _).trans hin') hrecorded.scu
      hrecorded.port rfl
  | false => exact hfinal hbase hin' hrecorded.scu hrecorded.port ((congrArg Loader.state hrecorded.loader).trans (hpends.idle hpc hwho))

/-- The effect point at a boundary. -/
theorem State.commitEffect_fits {s : State} (h : s.Fits none) (hin : s.inFlight = false) : s.commitEffect.Fits none := by
  unfold State.commitEffect
  split
  · exact h
  · rename_i pc hpc
    split
    · exact State.commitBadLine_fits h hpc
    · exact State.commitDone_fits h hpc hin

/-! ### Arming a commit (R59, R61) -/

/-- A commit with these items may be created for this requester. -/
structure State.MayArm (s : State) (c : CommitArgs) (who : CommitRequester) : Prop where
  base     : s.Base
  port     : s.port.Carries s.waits
  state    : s.scu.state = .verified
  verifier : s.scu.verifier = none
  deferred : s.scu.deferred = none
  revert   : s.revertWaits = false
  newer    : (s.table .active).generation < (s.table .staged).generation
  args     : c.fits
  agent    : (s.loader.state = .idle ∧ who = .service) ∨ (s.loadCommits ∧ who = .startUp)

/-- The pending commit is created, and takes effect at once only where no transaction is in flight. -/
theorem State.armCommit_fits {s : State} {c : CommitArgs} {who : CommitRequester} (h : s.MayArm c who) :
    (s.armCommit c who).Fits none := by
  obtain ⟨hbase, hport, hst, hv, hd, hrw, hnewer, hargs, hwho⟩ := h
  let pc : PendingCommit := { args := c, deadline := c.deadline s.timeBase, requester := who, gateOpen := false }
  let t : State := { s with scu := { s.scu with state := .commitPending, commit := some pc } }
  have hw : s.Writes t .staged (s.table .staged) := .same rfl rfl rfl id rfl rfl
  have hrec := hbase.record
  rw [hst] at hrec
  have hdeadline (hm : c.mode = .atBoundary) : c.deadline s.timeBase = none := by
    rw [CommitArgs.deadline, if_neg]
    rintro ⟨hg, -⟩
    exact absurd (hm.symm.trans hg) nofun
  have hwaits : t.waitsBut none = s.waits := by
    rw [State.waits_of_quiet (s := s) (t := t) rfl (by rw [hst]; nofun) nofun rfl, State.waitsBut_none]
  have harmed : t.Fits none := by
    refine ⟨hw.base hbase nofun hrec (hbase.keyed _) hbase.accounted, ?_, ?_⟩
    · exact ⟨hv, hd, hrw, pc, rfl, ⟨hnewer, hargs, hdeadline, nofun⟩, hwho⟩
    · rw [hwaits]
      exact hport
  unfold State.armCommit
  dsimp only
  split
  · rename_i hnow
    refine State.commitEffect_fits harmed ?_
    rw [State.commitAtOnce_iff] at hnow
    obtain hheld | ⟨-, hin⟩ := hnow
    · exact hbase.heldIdle hheld
    · exact hin
  · exact harmed

/-- The items of a start-up commit, of a header that has passed its tests (R83, R91). -/
theorem State.startUpArgs_fits {s : State} (h : headerTest s.loader.header = none) : s.startUpArgs.fits := by
  unfold State.startUpArgs
  split
  · rename_i hgate
    obtain ⟨hpresent, -⟩ := hgate
    have hgood : headerGood s.loader.header := by
      by_contra hbad
      rw [headerTest_of_not_good hbad] at h
      cases h
    obtain ⟨-, -, -, -, -, -, -, -, -, ⟨-, hlo, hhi, hbase, hend⟩ | ⟨hflag, -⟩⟩ := hgood
    · refine ⟨nofun, fun _ => ⟨hlo, hhi, ?_⟩⟩
      show (BitVec.ofNat 23 (field s.loader.header 12 3)).toNat + field s.loader.header 10 2 ≤ 0x800000
      rw [BitVec.toNat_ofNat]
      omega
    · rw [headerGatePresent, hflag] at hpresent
      cases hpresent
  · exact ⟨fun _ => ⟨rfl, rfl, rfl⟩, nofun⟩

theorem commitArgs_fits {p : List Byte} {c : CommitArgs} (h : commitArgs p = some c) : c.fits := by
  unfold commitArgs at h
  split at h
  · cases h
  · obtain rfl := Option.some.inj h
    exact ⟨fun _ => ⟨rfl, rfl, rfl⟩, nofun⟩
  · split at h
    · cases h
    · rename_i hrange
      obtain rfl := Option.some.inj h
      refine ⟨nofun, fun _ => ⟨?_, ?_, ?_⟩⟩
      · dsimp only
        omega
      · dsimp only
        omega
      · show (BitVec.ofNat 23 (field p 1 3)).toNat + field p 4 2 ≤ Config.hostLines
        rw [BitVec.toNat_ofNat]
        omega

/-- COMMIT when it executes (R60, R61). -/
theorem State.runCommit_fits {s : State} (h : s.Fits none) (hrw : s.revertWaits = false) (p : List Byte) :
    (s.runCommit p).1.Fits none := by
  unfold State.runCommit
  cases hst : s.scu.state with
  | verified =>
    dsimp only
    split
    · exact h
    · rename_i c hc
      split
      · exact h
      · rename_i hnewer
        have hphase := h.phase
        unfold State.phaseFits at hphase
        rw [hst] at hphase
        obtain ⟨hv, -, ⟨hl, hd⟩ | ⟨-, hw, -⟩⟩ := hphase
        · refine State.armCommit_fits ⟨h.base, ?_, hst, hv, hd, hrw, BitVec.not_le.mp hnewer, commitArgs_fits hc, .inl ⟨hl, rfl⟩⟩
          rw [← State.waitsBut_none]
          exact h.port
        · exact absurd (hw.symm.trans hrw) nofun
  | empty => exact h
  | opened => exact h
  | sealed => exact h
  | failed => exact h
  | loading => exact h
  | verifying => exact h
  | commitPending => exact h

/-! ### The commit of a start-up load (R59, R91) -/

/-- A start-up load has been verified, and its commit is to come. -/
structure State.LoadVerified (s : State) : Prop where
  base     : s.Base
  port     : s.port.Carries s.waits
  state    : s.scu.state = .verified
  verifier : s.scu.verifier = none
  commit   : s.scu.commit = none
  deferred : s.scu.deferred = none
  loader   : s.loadCommits

theorem State.LoadVerified.armStartUp {s : State} (h : s.LoadVerified) (hrw : s.revertWaits = false) {c : CommitArgs}
    (hc : c.fits) : (s.armStartUp c).Fits none := by
  obtain ⟨hbase, hport, hst, hv, -, hd, hl⟩ := h
  have hrec := hbase.record
  rw [hst] at hrec
  have ⟨_, _, _, hactive, _⟩ := hl
  have hnewer : (s.table .active).generation < (s.table .staged).generation := by
    rw [hactive]
    obtain ⟨hgen, -⟩ := hrec
    bv_omega
  unfold State.armStartUp
  rw [if_pos ⟨hst, hnewer⟩]
  exact State.armCommit_fits ⟨hbase, hport, hst, hv, hd, hrw, hnewer, hc, .inr ⟨hl, rfl⟩⟩

theorem State.LoadVerified.requestStartUpCommit {s : State} (h : s.LoadVerified) : s.requestStartUpCommit.Fits none := by
  have ⟨_, _, hheader, _⟩ := h.loader
  unfold State.requestStartUpCommit
  split
  · rename_i hw
    obtain ⟨⟨hdistinct, hrecord, hkeyed, hacc, hheld, htxn⟩, hport, hst, hv, hc, -, hl⟩ := h
    refine ⟨⟨hdistinct, hrecord, hkeyed, hacc, hheld, htxn⟩, ?_, ?_⟩
    · unfold State.phaseFits
      dsimp only
      rw [hst]
      exact ⟨hv, hc, .inr ⟨hl, hw, s.startUpArgs, rfl, State.startUpArgs_fits hheader⟩⟩
    · rw [State.waitsBut_none]
      exact hport
  · rename_i hw
    exact h.armStartUp (Bool.eq_false_iff.mpr hw) (State.startUpArgs_fits hheader)

/-! ### The withdrawal of a pending commit (R65, R66) -/

theorem State.withdrawn_fits {s w : State} (h : s.Fits none) (hst : s.scu.state = .commitPending)
    (hw : s.withdrawCommit.Alike w) (reason : Byte) :
    (if s.scu.commit.any PendingCommit.isStartUp then w.startUpCommitFailed reason else w).Fits none := by
  have hpends := h.phase.pending hst
  have ⟨hv, hd, _, pc, hpc, _⟩ := hpends
  have hrec := h.base.record
  rw [hst] at hrec
  have hwrites : s.Writes s.withdrawCommit .staged (s.table .staged) := .same rfl rfl rfl id rfl rfl
  have hfinal {t : State} (ht : s.Writes t .staged (s.table .staged)) (hacc : t.accounted)
      (hscu : t.scu = s.withdrawCommit.scu) (hidle : t.loader.state = .idle) : t.Fits none := by
    refine ⟨ht.base h.base nofun ?_ (h.base.keyed _) hacc, State.phaseFits_of_quiet ⟨hidle, ?_, ?_, ?_⟩ ?_, ?_⟩
    · rw [hscu, ht.self]
      exact hrec
    · rw [hscu]
      exact hv
    · rw [hscu]
      rfl
    · rw [hscu]
      exact hd
    · rw [hscu]
      exact ⟨nofun, nofun, nofun⟩
    · rw [ht.port, State.waits_of_quiet ht.inFlight (by rw [hst]; nofun) (by rw [hscu]; nofun) (by rw [hscu]; rfl)]
      exact h.port
  have hacc : w.accounted := hw.accounted h.base.accounted
  rw [hpc, Option.any_some]
  cases hwho : pc.isStartUp with
  | true => exact hfinal (State.Writes.endStartUpLoad ((hwrites.alike hw).alike (w.raise_alike _ _))) hacc hw.scu rfl
  | false => exact hfinal (hwrites.alike hw) hacc hw.scu ((congrArg Loader.state hw.loader).trans (hpends.idle hpc hwho))

theorem State.expireGate_fits {s : State} (h : s.Fits none) : s.expireGate.Fits none := by
  unfold State.expireGate
  split
  · rename_i hexp
    have hst : s.scu.state = .commitPending := by
      rw [State.gateTimerExpired] at hexp
      split at hexp
      · cases hexp
      · exact h.phase.pends ‹_›
    exact State.withdrawn_fits h hst (State.raise_alike _ _ _) 0x80
  · exact h

theorem State.runCancel_fits {s : State} (h : s.Fits none) (p : List Byte) : (s.runCancel p).1.Fits none := by
  unfold State.runCancel
  split
  · exact State.withdrawn_fits h ‹_› (.refl _) 0x81
  · exact h

/-! ### REVERT and CLEAR_RETAINED (R73 to R76) -/

/-- The roles ACTIVE and RETAINED have changed places. -/
def State.swapped (s : State) : State :=
  { s with roles := { s.roles with active := s.roles.retained, retained := s.roles.active } }

/-- A REVERT has no effect, or swaps the two roles. -/
theorem State.revertEffect_cases (s : State) (tag : Byte) :
    s.Alike (s.revertEffect tag) ∨ s.swapped.Alike (s.revertEffect tag) := by
  unfold State.revertEffect
  dsimp only
  split
  · exact .inl (s.respond_alike _ _ _)
  · exact .inr ((State.traceMarker_alike _ _).trans (State.respond_alike _ _ _ _))

theorem State.swapped_base {s : State} (h : s.Base) (hin : s.inFlight = false) : s.swapped.Base := by
  obtain ⟨h1, h2, h3⟩ := h.distinct
  exact ⟨⟨h3.symm, h2.symm, h1.symm⟩, h.record, h.keyed, h.accounted, h.heldIdle, State.txnFits_of_idle hin⟩

theorem State.swapped_unset (s : State) : s.swapped.unset ↔ s.unset := And.comm

theorem State.swapped_fits {s : State} (h : s.Fits none) (hst : s.scu.state ≠ .commitPending) (hin : s.inFlight = false) :
    s.swapped.Fits none :=
  ⟨State.swapped_base h.base hin,
    h.phase.carry rfl rfl s.swapped_unset.mpr rfl (fun hp => absurd hp hst) (.inl rfl), h.port⟩

theorem State.revertEffect_fits {s : State} (h : s.Fits none) (hst : s.scu.state ≠ .commitPending)
    (hin : s.inFlight = false) (tag : Byte) : (s.revertEffect tag).Fits none := by
  obtain hsame | hswapped := s.revertEffect_cases tag
  · exact hsame.fits h
  · exact hswapped.fits (State.swapped_fits h hst hin)

/-- A deferred commit is armed behind the effect of the REVERT. -/
theorem State.revertEffect_takeDeferred_fits {s : State} (h : s.Fits none) (hrw : s.revertWaits = true)
    (hin : s.inFlight = false) (tag : Byte) :
    (State.revertEffect { s with svp := { s.svp with executing := none } } tag).takeDeferred.Fits none := by
  let t : State := { s with svp := { s.svp with executing := none } }
  have hst : s.scu.state ≠ .commitPending := by
    intro hp
    obtain ⟨-, -, hw, -⟩ := h.phase.pending hp
    exact absurd (hrw.symm.trans hw) nofun
  have hbase : t.Base := by
    obtain ⟨h1, h2, h3, h4, h5, h6⟩ := h.base
    exact ⟨h1, h2, h3, h4, h5, h6⟩
  cases hd : s.scu.deferred with
  | none =>
    rw [State.takeDeferred_of_none ((congrArg Scu.deferred (t.revertEffect_scu tag)).trans hd)]
    refine State.revertEffect_fits (s := t) ⟨hbase, ?_, h.port⟩ hst hin tag
    exact h.phase.carry rfl rfl id rfl (fun _ => ⟨rfl, rfl⟩) (.inr ⟨hd, nofun⟩)
  | some c =>
    obtain ⟨hverified, hv, hc, hl, -, hfits⟩ := h.phase.deferred hd
    have harm {w : State} (hw : w.Base) (hscu : w.scu = s.scu) (hloader : w.loader = s.loader) (hport : w.port = s.port)
        (hin' : w.inFlight = s.inFlight) (hidle : w.revertWaits = false) (hunset : s.unset → w.unset) :
        w.takeDeferred.Fits none := by
      obtain ⟨h1, h2, h3, h4, h5, h6⟩ := hw
      obtain ⟨hcommit, hkind, hheader, hun⟩ := hl
      let u : State := { w with scu := { w.scu with deferred := none } }
      have htake : w.takeDeferred = u.armStartUp c := by
        rw [State.takeDeferred, (congrArg Scu.deferred hscu).trans hd]
      rw [htake]
      refine State.LoadVerified.armStartUp (s := u) ⟨⟨h1, h2, h3, h4, h5, h6⟩, ?_, (congrArg Scu.state hscu).trans hverified,
        (congrArg Scu.verifier hscu).trans hv, (congrArg Scu.commit hscu).trans hc, rfl, ?_⟩ hidle hfits
      · have hp := h.port
        rw [State.waitsBut_none] at hp
        have hwaits : u.waits = s.waits := by
          funext who
          cases who with
          | host => exact hin'
          | loader => exact congrArg (· == .loading) (congrArg Scu.state hscu)
          | verifier => exact (congrArg (fun x : Scu => x.verifier.isSome) hscu : w.scu.verifier.isSome = _)
        show w.port.Carries _
        rw [hwaits, hport]
        exact hp
      · unfold State.loadCommits
        rw [show u.loader = s.loader from hloader]
        exact ⟨hcommit, hkind, hheader, hunset hun⟩
    obtain hsame | hswapped := t.revertEffect_cases tag
    · refine harm (hsame.base hbase) hsame.scu hsame.loader hsame.port hsame.inFlight hsame.revertWaits fun hu => ?_
      unfold State.unset
      rw [hsame.table, hsame.table]
      exact hu
    · refine harm (hswapped.base (State.swapped_base hbase hin)) hswapped.scu hswapped.loader hswapped.port
        hswapped.inFlight hswapped.revertWaits fun hu => ?_
      unfold State.unset
      rw [hswapped.table, hswapped.table]
      exact t.swapped_unset.mpr hu

/-- REVERT_EFFECT (R74). -/
theorem execRevertEffect_fits {s t : State} (h : s.Fits none) (hexec : execRevertEffect s = .next t) : t.Fits none := by
  obtain rfl := Host.Outcome.next.inj hexec
  refine h.whenUp ?_
  dsimp only
  split
  · exact h
  · rename_i x hx
    split
    · rename_i hdue
      obtain ⟨hwhat, hin⟩ := hdue
      refine State.revertEffect_takeDeferred_fits h ?_ hin x.tag
      rw [State.revertWaits, hx]
      exact beq_iff_eq.mpr hwhat
    · exact h

/-- A command that becomes the executing one, where none was. -/
theorem State.setExecuting_fits {s : State} (h : s.Fits none) (hno : s.svp.executing = none) (x : Executing)
    (hx : x.what = .revert → s.scu.state ≠ .loading ∧ s.scu.state ≠ .commitPending) :
    State.Fits { s with svp := { s.svp with executing := some x } } none := by
  have hrw : s.revertWaits = false := by rw [State.revertWaits, hno]
  have hd : s.scu.deferred = none := by
    by_contra hne
    obtain ⟨c, hc⟩ := Option.ne_none_iff_exists'.mp hne
    obtain ⟨-, -, -, -, hw, -⟩ := h.phase.deferred hc
    exact absurd (hw.symm.trans hrw) nofun
  obtain ⟨⟨h1, h2, h3, h4, h5, h6⟩, hphase, hport⟩ := h
  refine ⟨⟨h1, h2, h3, h4, h5, h6⟩, ?_, hport⟩
  exact hphase.carry rfl rfl id rfl (fun _ => ⟨rfl, rfl⟩) (.inr ⟨hd, fun hw => hx (beq_iff_eq.mp hw)⟩)

/-- REVERT when it executes (R73). -/
theorem State.runRevert_fits {s : State} (h : s.Fits none) (hno : s.svp.executing = none) (c : QueuedCommand) :
    (s.runRevert c).Fits none := by
  by_cases hst : s.scu.state = .commitPending ∨ s.scu.state = .loading
  · rw [State.runRevert_of_refused hst]
    exact (s.respond_alike _ _ _).fits h
  · obtain ⟨h1, h2⟩ := not_or.mp hst
    rw [State.runRevert_of_accepted h1 h2]
    split
    · exact State.setExecuting_fits h hno _ fun _ => ⟨h2, h1⟩
    · rename_i hnow
      refine State.revertEffect_fits h h1 ?_ c.tag
      cases hin : s.inFlight with
      | false => rfl
      | true =>
        cases hheld : s.hbi.held with
        | false => exact absurd (by rw [hin, hheld]; rfl) hnow
        | true => exact hin.symm.trans (h.base.heldIdle hheld)

/-- CLEAR_RETAINED (R76): the retained table is empty, so no set has taken effect that it could bring back. -/
theorem State.runClearRetained_fits {s : State} (h : s.Fits none) (p : List Byte) :
    (s.runClearRetained p).1.Fits none := by
  have hw : s.Writes (s.releaseRole .retained) .retained Table.empty := ⟨rfl, rfl, rfl, id, rfl, rfl⟩
  have hstaged := hw.other h.base.distinct (q := .staged) nofun
  have hactive := hw.other h.base.distinct (q := .active) nofun
  refine ⟨hw.base h.base nofun ?_ Table.keyed_empty (hw.accounted_of_released h.base.accounted rfl Table.refs_empty), ?_, ?_⟩
  · show s.scu.state.recordFits ((s.releaseRole .retained).table .staged)
    rw [hstaged]
    exact h.base.record
  · refine h.phase.carry rfl rfl (fun hu => ⟨?_, ?_⟩) (congrArg Table.count hstaged)
      (fun _ => ⟨congrArg Table.generation hactive, congrArg Table.generation hstaged⟩) (.inl rfl)
    · exact (congrArg Table.generation hactive).trans hu.1
    · exact congrArg Table.generation hw.self
  · exact h.port

end Sys2Proof.Machine
end

section
/-! PROOF. The end of an access at the port, and the verification, keep the invariants (R50 to R55, R126, R130). -/

namespace Sys2Proof.Machine

open Sys2Proof

set_option Elab.async false

/-! ### The port becomes FREE (R126, R130) -/

theorem State.Base.setPort {s : State} (h : s.Base) (p : MemPort) : State.Base { s with port := p } := by
  obtain ⟨h1, h2, h3, h4, h5, h6⟩ := h
  exact ⟨h1, h2, h3, h4, h5, h6⟩

/-- The agent whose access ends lacks its request. -/
theorem State.freePort_carries {s : State} (h : s.Fits none) : s.freePort.port.Carries (s.waitsBut s.port.serving) := by
  have hfree := h.port.free s.timeBase
  rw [State.waitsBut_none] at hfree
  exact hfree

/-- Behind a given-up access no agent lacks its request. -/
theorem State.freePort_fits {s : State} {q : Access} (h : s.Fits none) (hq : s.port.access = some q)
    (hup : q.givenUp = true) : s.freePort.Fits none := by
  have hserve : s.port.serving = none := by rw [MemPort.serving, hq, Option.bind_some, if_pos hup]
  exact ⟨h.base.setPort _, h.phase.congr rfl rfl rfl (fun _ => rfl) rfl, hserve ▸ State.freePort_carries h⟩

/-- Behind an access in progress its requester waits, and lacks its request. -/
theorem State.freePort_fits_off {s : State} {q : Access} (h : s.Fits none) (hq : s.port.access = some q)
    (hup : q.givenUp = false) : s.freePort.Fits (some q.who) ∧ s.freePort.waits q.who = true := by
  have hserve : s.port.serving = some q.who := by rw [MemPort.serving, hq, Option.bind_some, hup]; rfl
  refine ⟨⟨h.base.setPort _, h.phase.congr rfl rfl rfl (fun _ => rfl) rfl, hserve ▸ State.freePort_carries h⟩, ?_⟩
  have hholds := h.port.holds q.who
  rw [State.waitsBut_none] at hholds
  show s.waits q.who = true
  rw [← hholds, hserve]
  simp

/-! ### The end of a verification (R53, R88) -/

/-- Only the host, if any, has a request at the port. -/
def State.hostOnly (s : State) (who : Requester) : Bool := who == .host && s.inFlight

theorem State.waitsBut_eq_hostOnly {s : State} {off : Option Requester} (hst : s.scu.state ≠ .loading)
    (hv : s.scu.verifier = none ∨ off = some .verifier) (hoff : off ≠ some .host) : s.waitsBut off = s.hostOnly := by
  have hload : (s.scu.state == .loading) = false := beq_eq_false_iff_ne.mpr hst
  funext who
  unfold State.waitsBut State.waits State.hostOnly
  cases who with
  | host => simp [hoff]
  | loader => simp [hload]
  | verifier => obtain hv | hv := hv <;> simp [hv]

/-- A verification by this starter stands between two words. -/
structure State.Verifying (s : State) (starter : VerifyStarter) : Prop where
  base     : s.Base
  state    : s.scu.state = .verifying
  verifier : ∃ v, s.scu.verifier = some v ∧ v.starter = starter
  agent    : s.verifies starter
  port     : s.port.Carries s.hostOnly

theorem State.Verifying.alike {s t : State} {starter : VerifyStarter} (h : s.Verifying starter) (ht : s.Alike t) :
    t.Verifying starter where
  base := ht.base h.base
  state := ht.scu ▸ h.state
  verifier := ht.scu ▸ h.verifier
  agent := by
    have hagent := h.agent
    unfold State.verifies State.unset at hagent ⊢
    rw [ht.scu, ht.loader, ht.table, ht.table]
    exact hagent
  port := by
    have hhost : t.hostOnly = s.hostOnly := by
      funext who
      rw [State.hostOnly, State.hostOnly, ht.inFlight]
    rw [ht.port, hhost]
    exact h.port

/-- A verification that has got all it asked for stands between two words. -/
theorem State.phaseFits.verifying {s : State} (h : s.phaseFits) {v : VerifyRun} (hv : s.scu.verifier = some v) :
    s.scu.state = .verifying ∧ v.passed < (s.table .staged).count ∧ s.verifies v.starter := by
  have hnone (hn : s.scu.verifier = none) : False := Option.some_ne_none v (hv.symm.trans hn)
  unfold State.phaseFits at h
  cases hst : s.scu.state <;> rw [hst] at h
  case empty => exact (hnone h.2.1).elim
  case opened => exact (hnone h.2.1).elim
  case sealed => exact (hnone h.2.1).elim
  case failed => exact (hnone h.2.1).elim
  case verified => exact (hnone h.1).elim
  case commitPending => exact (hnone h.1).elim
  case loading =>
    obtain ⟨-, -, hn, -⟩ := h
    exact (hnone hn).elim
  case verifying =>
    obtain ⟨u, hu, hpassed, hagent⟩ := h
    obtain rfl := Option.some.inj (hv.symm.trans hu)
    exact ⟨rfl, hpassed, hagent⟩

theorem State.Fits.verifying {s : State} (h : s.Fits (some .verifier)) {v : VerifyRun} (hv : s.scu.verifier = some v) :
    s.Verifying v.starter := by
  obtain ⟨hst, -, hagent⟩ := h.phase.verifying hv
  refine ⟨h.base, hst, ⟨v, hv, rfl⟩, hagent, ?_⟩
  rw [← State.waitsBut_eq_hostOnly (by rw [hst]; nofun) (.inr rfl) nofun]
  exact h.port

theorem State.Base.setLoader {s : State} (h : s.Base) (l : Loader) : State.Base { s with loader := l } := by
  obtain ⟨h1, h2, h3, h4, h5, h6⟩ := h
  exact ⟨h1, h2, h3, h4, h5, h6⟩

/-- A set that has been judged: no agent but the loader may still be at work on it. -/
structure State.Judged (s : State) : Prop where
  base     : s.Base
  still    : s.scu.state.still
  verifier : s.scu.verifier = none
  commit   : s.scu.commit = none
  deferred : s.scu.deferred = none
  port     : s.port.Carries s.waits

theorem State.Judged.alike {s t : State} (h : s.Judged) (ht : s.Alike t) : t.Judged where
  base := ht.base h.base
  still := ht.scu ▸ h.still
  verifier := ht.scu ▸ h.verifier
  commit := ht.scu ▸ h.commit
  deferred := ht.scu ▸ h.deferred
  port := by
    rw [ht.port, ht.waits]
    exact h.port

/-- With an idle loader nothing is at work. -/
theorem State.Judged.fits {s : State} (h : s.Judged) (hidle : s.loader.state = .idle) : s.Fits none :=
  ⟨h.base, State.phaseFits_of_quiet ⟨hidle, h.verifier, h.commit, h.deferred⟩ h.still, s.waitsBut_none ▸ h.port⟩

theorem State.Judged.setLoader {s : State} (h : s.Judged) (l : Loader) : State.Judged { s with loader := l } :=
  ⟨h.base.setLoader l, h.still, h.verifier, h.commit, h.deferred, h.port⟩

theorem State.Judged.endStartUpLoad {s : State} (h : s.Judged) : s.endStartUpLoad.Fits none := by
  refine State.Judged.fits ⟨h.base.endStartUpLoad, h.still, h.verifier, h.commit, h.deferred, ?_⟩ rfl
  have hwaits : s.endStartUpLoad.waits = s.waits := by
    funext who
    cases who with
    | host => exact s.inFlight_endStartUpLoad
    | loader => rfl
    | verifier => rfl
  rw [hwaits]
  exact h.port

/-- The written result: the staged set is VERIFIED or FAILED, as its record has it. -/
theorem State.Verifying.written {s : State} {starter : VerifyStarter} (h : s.Verifying starter) {res : VerifyResult}
    (hres : res ≠ .none) : (s.resultWritten res).Judged := by
  have hrec := h.base.record
  rw [h.state] at hrec
  obtain ⟨hgen, -⟩ := hrec
  have hw : s.Writes (s.resultWritten res) .staged { s.table .staged with result := res } := ⟨rfl, rfl, rfl, id, rfl, rfl⟩
  have hstate : (s.resultWritten res).scu.state = if res = .ok then .verified else .failed := rfl
  have hstill : (s.resultWritten res).scu.state.still := by
    rw [hstate]
    split <;> exact ⟨nofun, nofun, nofun⟩
  obtain ⟨hc, hd, -⟩ := h.agent
  refine ⟨hw.base h.base nofun ?_ ((h.base.keyed _).congr rfl) (hw.accounted_of_same h.base.accounted rfl fun _ => rfl),
    hstill, rfl, hc, hd, ?_⟩
  · rw [hw.self, hstate]
    by_cases hok : res = .ok
    · rw [if_pos hok]
      exact ⟨hgen, hok⟩
    · rw [if_neg hok]
      exact ⟨hgen, hres, hok⟩
  · rw [← State.waitsBut_none, State.waitsBut_eq_hostOnly (off := none) hstill.1 (.inl rfl) nofun]
    exact h.port

/-- The end of a verification (R53): the staged set is judged, and whoever started it goes on. -/
theorem State.Verifying.ends {s : State} {starter : VerifyStarter} (h : s.Verifying starter) {res : VerifyResult}
    (hres : res ≠ .none) : (s.endVerification res).Fits none := by
  have hjudged := h.written hres
  obtain ⟨v, hv, rfl⟩ := h.verifier
  obtain ⟨hc, hd, hagent⟩ := h.agent
  cases hwho : v.starter with
  | verifySet =>
    have hidle : s.loader.state = .idle := by
      obtain ⟨hl, -⟩ | ⟨-, -, -, hs⟩ := hagent
      · exact hl
      · rw [hwho] at hs
        cases hk : s.loader.kind <;> rw [hk] at hs <;> cases hs
    unfold State.endVerification
    rw [hv]
    simp only [hwho]
    exact (hjudged.alike (State.raise_alike _ _ _)).fits hidle
  | commandLoad =>
    rw [State.endVerification_commandLoad hv hwho]
    exact ((hjudged.alike (State.raise_alike _ _ _)).setLoader _).fits rfl
  | startUpLoad =>
    by_cases hok : res = .ok
    · subst hok
      obtain ⟨-, hs⟩ | ⟨hl, hheader, hunset, hs⟩ := hagent
      · exact absurd (hwho.symm.trans hs) nofun
      · have hkind : s.loader.kind = .startUp := by
          rw [hwho] at hs
          cases hk : s.loader.kind with
          | command => rw [hk] at hs; cases hs
          | startUp => rfl
        have hw : s.Writes s.startUpVerified .staged { s.table .staged with result := .ok } :=
          ⟨rfl, rfl, rfl, id, rfl, rfl⟩
        have hverified := (hjudged.alike (State.raise_alike _ .loadResult
          (loadDetail 2 VerifyResult.ok.code.toNat (headerGeneration s.loader.header)))).setLoader { s.loader with state := .commit }
        rw [State.endVerification_startUpOk hv hwho]
        exact State.LoadVerified.requestStartUpCommit ⟨hverified.base, hverified.port, rfl, rfl, hc, hd, rfl, hkind, hheader,
          (hw.unset h.base.distinct rfl).mpr (hunset hkind)⟩
    · unfold State.endVerification
      rw [hv]
      simp only [hwho, hok, if_false]
      have hfailed := hjudged.alike (State.raise_alike _ .startFailed (loadReport 2 res.code s.loadGeneration))
      rw [State.resultWritten, if_neg hok] at hfailed
      exact State.Judged.endStartUpLoad hfailed

/-! ### The walk (R51, R52) -/

/-- The agents and the tables, with the verification's run. -/
theorem State.Verifying.setRun {s : State} {starter : VerifyStarter} (h : s.Verifying starter) {v : VerifyRun}
    (hv : v.starter = starter) (crc : Word) :
    State.Verifying { s with scu := { s.scu with verifier := some v, computedCrc := crc } } starter := by
  obtain ⟨⟨h1, h2, h3, h4, h5, h6⟩, hst, -, hagent, hport⟩ := h
  exact ⟨⟨h1, h2, h3, h4, h5, h6⟩, hst, ⟨v, rfl, hv⟩, hagent, hport⟩

/-- The next origin word is asked for, or its address is BLOCKED (R52). -/
theorem State.Verifying.requestOrigin {s : State} {v : VerifyRun} (h : s.Verifying v.starter) (e : Entry)
    (hpassed : v.passed < (s.table .staged).count) : (s.requestOrigin e v).Fits none := by
  unfold State.requestOrigin
  dsimp only
  split
  · exact h.ends nofun
  · obtain ⟨hbase, hst, -, hagent, hport⟩ := h.setRun (v := v) rfl s.scu.computedCrc
    refine ⟨hbase.setPort _, ?_, ?_⟩
    · unfold State.phaseFits
      dsimp only [State.request]
      rw [h.state]
      exact ⟨v, rfl, hpassed, hagent⟩
    · rw [State.waitsBut_none]
      refine MemPort.Carries.request_off (s := { s with scu := { s.scu with verifier := some v } }) ?_ rfl _ _
      rw [State.waitsBut_eq_hostOnly (by rw [h.state]; nofun) (.inr rfl) nofun]
      exact hport

theorem State.storeLine_of_failingLine {s : State} {e : Entry} {l : LineIdx} (h : s.failingLine e = some l) :
    e.storeLine = some l := by
  unfold State.failingLine at h
  split at h
  · rename_i mask k hbody
    split at h
    · rw [Entry.storeLine, hbody]
      exact h
    · cases h
  · cases h

/-- The walk over the entries still to visit comes to an end of the verification or to the next origin word. -/
theorem State.walkEntries_fits (todo : List (Slot × Entry)) (v : VerifyRun) (s : State) (h : s.Verifying v.starter)
    (hpassed : v.passed + todo.length = (s.table .staged).count)
    (hmem : ∀ x ∈ todo, (s.table .staged).slots[x.1] = some x.2) : (s.walkEntries todo v).Fits none := by
  induction todo generalizing v with
  | nil =>
    obtain ⟨u, hu, hs⟩ := h.verifier
    unfold State.walkEntries
    have hv : State.Verifying { s with scu := { s.scu with computedCrc := crc32Final v.crc } } v.starter := by
      obtain ⟨⟨h1, h2, h3, h4, h5, h6⟩, hst, hrun, hagent, hport⟩ := h
      exact ⟨⟨h1, h2, h3, h4, h5, h6⟩, hst, hrun, hagent, hport⟩
    refine hv.ends ?_
    split <;> exact nofun
  | cons x rest ih =>
    rw [List.length_cons] at hpassed
    rw [State.walkEntries_cons]
    split
    · rename_i l hfail
      have hrefs := s.refs_ne_zero (hmem x (List.mem_cons_self ..)) (State.storeLine_of_failingLine hfail)
      exact (h.alike (State.lineFailed_alike hrefs)).ends nofun
    · split
      · refine ih _ h ?_ fun y hy => hmem y (List.mem_cons_of_mem _ hy)
        show v.passed + 1 + rest.length = _
        omega
      · refine State.Verifying.requestOrigin (v := s.passed v x.2) h x.2 ?_
        show v.passed < _
        omega

/-- The entries of the walk are those of the table. -/
theorem Table.mem_walk {t : Table} {x : Slot × Entry} (h : x ∈ t.walk) : t.slots[x.1] = some x.2 :=
  Table.mem_entries.mp (t.walk_perm.mem_iff.mp h)

/-- A verification may start on this set. -/
structure State.MayVerify (s : State) (starter : VerifyStarter) : Prop where
  base       : s.Base
  generation : (s.table .staged).generation ≠ 0
  agent      : s.verifies starter
  port       : s.port.Carries s.hostOnly

theorem State.MayVerify.starts {s : State} {starter : VerifyStarter} (h : s.MayVerify starter) :
    (s.startVerification starter).Fits none := by
  have hw : s.Writes (s.verifying starter) .staged { s.table .staged with result := .none } :=
    ⟨rfl, rfl, rfl, id, rfl, rfl⟩
  have htable := hw.self
  have hunset := hw.unset h.base.distinct rfl
  obtain ⟨hc, hd, hagent⟩ := h.agent
  refine State.walkEntries_fits _ { starter := starter, passed := 0, crc := crc32Start, origin := [] } (s.verifying starter)
    ⟨hw.base h.base nofun ?_ ((h.base.keyed _).congr rfl) (hw.accounted_of_same h.base.accounted rfl fun _ => rfl),
      rfl, ⟨_, rfl, rfl⟩, ⟨hc, hd, ?_⟩, h.port⟩ ?_ fun x hx => ?_
  · rw [htable]
    exact ⟨h.generation, rfl⟩
  · exact hagent.imp id fun ⟨h1, h2, h3, h4⟩ => ⟨h1, h2, fun hk => hunset.mpr (h3 hk), h4⟩
  · rw [htable, Nat.zero_add]
    exact Table.walk_length _
  · rw [htable]
    exact Table.mem_walk hx

/-- VERIFY_SET when it executes (R51). -/
theorem State.runVerify_fits {s : State} (h : s.Fits none) (us : List Upset) (p : List Byte) :
    (s.runVerify us p).1.Fits none := by
  unfold State.runVerify
  dsimp only
  split
  · rename_i hst
    have hu := (s.upset_alike us).fits h
    have hfacts : s.quiet ∧ ((s.upset us).table .staged).generation ≠ 0 ∧ (s.upset us).scu.state ≠ .loading := by
      have hphase := h.phase
      have hrec := h.base.record
      unfold State.phaseFits at hphase
      obtain hst | hst := hst <;> rw [hst] at hphase hrec
      · exact ⟨hphase, hrec.1, fun hl => absurd (hst.symm.trans hl) nofun⟩
      · exact ⟨hphase, hrec.1, fun hl => absurd (hst.symm.trans hl) nofun⟩
    obtain ⟨⟨hl, hv, hc, hd⟩, hgen, hnot⟩ := hfacts
    refine State.MayVerify.starts ⟨hu.base, hgen, ⟨hc, hd, .inl ⟨hl, rfl⟩⟩, ?_⟩
    rw [← State.waitsBut_eq_hostOnly (off := none) hnot (.inl hv) nofun]
    exact hu.port
  · exact h

/-- The verifier has got a word (R52). -/
theorem State.verifierWord_fits {s : State} (h : s.Fits (some .verifier)) (hwait : s.waits .verifier = true) (w : Word) :
    (s.verifierWord w).Fits none := by
  obtain ⟨v, hv⟩ := Option.isSome_iff_exists.mp (hwait : s.scu.verifier.isSome = true)
  have hverifying := h.verifying hv
  obtain ⟨-, hpassed, -⟩ := h.phase.verifying hv
  have hsplit := List.take_append_drop v.passed (s.table .staged).walk
  cases hdrop : (s.table .staged).walk.drop v.passed with
  | nil =>
    have hlen := congrArg List.length hdrop
    rw [List.length_drop, Table.walk_length, List.length_nil] at hlen
    omega
  | cons x rest =>
    rw [hdrop] at hsplit
    have hlen : v.passed = ((s.table .staged).walk.take v.passed).length := by
      rw [List.length_take, Table.walk_length]
      omega
    rw [State.verifierWord_eq hv hsplit.symm hlen]
    split
    · exact State.Verifying.requestOrigin (v := { v with origin := v.origin ++ [w] }) hverifying x.2 hpassed
    · split
      · refine State.walkEntries_fits rest { v with passed := v.passed + 1, origin := [] } s hverifying ?_ fun y hy => ?_
        · have hcount := congrArg List.length hsplit
          rw [List.length_append, ← hlen, List.length_cons, Table.walk_length] at hcount
          show v.passed + 1 + rest.length = _
          omega
        · refine Table.mem_walk ?_
          rw [← hsplit]
          exact List.mem_append_right _ (List.mem_cons_of_mem _ hy)
      · exact hverifying.ends nofun

end Sys2Proof.Machine
end

section
/-! PROOF. The staged-set commands keep the invariants: open, clone, the entries, seal, unseal and discard (R42 to R56). -/

namespace Sys2Proof.Machine

open Sys2Proof

set_option Elab.async false

/-! ### Entries and the lines they name -/

theorem namedBy_of_line {e : Entry} {l : LineIdx} (h : e.storeLine = some l) (m : LineIdx) :
    namedBy (some e) m = if m = l then 1 else 0 := by
  rw [namedBy, Option.any_some, h]
  by_cases hm : m = l
  · subst hm
    simp
  · rw [if_neg hm, if_neg]
    simp [Ne.symm hm]

theorem namedBy_of_lineless {e : Entry} (h : e.storeLine = none) (m : LineIdx) : namedBy (some e) m = 0 := by
  rw [namedBy, Option.any_some, h]
  rfl

theorem namedBy_le_one (o : Option Entry) (m : LineIdx) : namedBy o m ≤ 1 := by
  unfold namedBy
  split
  · exact Nat.le_refl 1
  · exact Nat.zero_le 1

/-- The accounting over a write of one slot of the staged table. -/
theorem State.Writes.accounted_of_slot {s t : State} {i : Slot} {o : Option Entry} (ha : s.accounted)
    (h : s.Writes t .staged ((s.table .staged).setSlot i o)) {refs : LineIdx → Nat} (hst : t.store.counts refs)
    (hrefs : ∀ m, refs m + namedBy (s.table .staged).slots[i] m = s.tables.refs m + namedBy o m)
    (hfresh : ∀ m, namedBy o m ≠ 0 → (s.table .staged).refs m = namedBy (s.table .staged).slots[i] m) : t.accounted := by
  have ⟨_, hexcl⟩ := State.accounted_iff.mp ha
  refine h.accounted ha hst (fun m => ?_) fun m => ?_
  · have hset := (s.table .staged).refs_setSlot i o m
    have := hrefs m
    omega
  · have hset := (s.table .staged).refs_setSlot i o m
    have hone : (s.table .staged).refs m ≤ 1 := (hexcl m).get _
    have hnew := namedBy_le_one o m
    by_cases hz : namedBy o m = 0
    · omega
    · have := hfresh m hz
      omega

/-- The entry of a well-formed record has a nonzero mask. -/
theorem EntryRecord.mask_ne_zero {r : EntryRecord} (h : r.wellFormed = true) {l k : LineIdx} {mask : BitVec 8}
    (hbody : (r.toEntry l).body = .substitute mask k) : mask ≠ 0 := by
  unfold EntryRecord.toEntry at hbody
  unfold EntryRecord.wellFormed at h
  cases hb : r.body with
  | substitute m data =>
    rw [hb] at h hbody
    obtain ⟨rfl, -⟩ := EntryBody.substitute.inj hbody
    rw [Bool.and_eq_true, bne_iff_ne] at h
    exact h.1
  | redirect ce target => rw [hb] at hbody; cases hbody
  | watch th dir => rw [hb] at hbody; cases hbody

/-! ### The line store behind a written entry (R26, R29, R32) -/

section
variable {s : State} {l : LineIdx} {ls : List LineIdx}

/-- The head of the free list is named by no table. -/
theorem State.accounted.refs_free (h : s.accounted) (hcons : s.store.freeList = l :: ls) : s.tables.refs l = 0 := by
  obtain ⟨hcount, -, -, -, hfree, -⟩ := h
  rw [← hcount l]
  exact ((hfree l).mp (hcons ▸ List.mem_cons_self ..)).1

theorem State.refs_of_free {r : Role} (h : s.tables.refs l = 0) : (s.table r).refs l = 0 :=
  Nat.le_zero.mp (h ▸ s.tables.refs_get_le (s.roles.letter r) l)

theorem LineStore.counts.fill {st : LineStore} {refs : LineIdx → Nat} (h : st.counts refs) (l : LineIdx) (mask : BitVec 8)
    (data : List Word) : (st.fill l mask data).counts refs := by
  refine h.congr (fun m => ?_) rfl rfl
  by_cases hm : m = l
  · subst hm
    have hself : (st.fill m mask data).lines[m] = { st.lines[m] with words := filledWords (patchWord mask data) } :=
      st.setLine_self m _
    rw [hself]
    exact ⟨rfl, rfl⟩
  · rw [LineStore.fill, LineStore.setLine_ne _ _ _ _ hm]
    exact ⟨rfl, rfl⟩

end

/-! ### A slot of the staged table written (R45, R46, R47) -/

/-- One slot of the staged table has been written, and the line store follows; the SCU and the loader are as they were. -/
structure State.SlotWritten (s t : State) (i : Slot) (o : Option Entry) : Prop where
  writes    : s.Writes t .staged ((s.table .staged).setSlot i o)
  keyed     : ((s.table .staged).setSlot i o).keyed
  accounted : t.accounted
  scu       : t.scu = s.scu
  loader    : t.loader = s.loader

/-- An entry put in a slot, over the state that its line side has left. -/
theorem State.withEntry_writes (s : State) (n : Nat) (st : LineStore) (i : Slot) (e : Entry) :
    s.Writes (State.withEntry { s.freeLowTest n with store := st } i e) .staged ((s.table .staged).setSlot i (some e)) ∧
    (State.withEntry { s.freeLowTest n with store := st } i e).scu = s.scu ∧
    (State.withEntry { s.freeLowTest n with store := st } i e).loader = s.loader := by
  unfold State.freeLowTest
  split
  · exact ⟨⟨rfl, rfl, rfl, id, rfl, rfl⟩, rfl, rfl⟩
  · exact ⟨⟨rfl, rfl, rfl, id, rfl, rfl⟩, rfl, rfl⟩

section
variable {s t : State} {i : Slot} {r : EntryRecord} {l : LineIdx} {old : Option Entry} (hb : s.Base)
  (hold : (s.table .staged).slots[i] = old) (hwf : r.wellFormed = true)
  (hline : ∀ (j : Slot) (f : Entry), j ≠ i → (s.table .staged).slots[j] = some f → f.line ≠ r.line)

include hb hwf hline

theorem State.entry_keyed : ((s.table .staged).setSlot i (some (r.toEntry l))).keyed :=
  (hb.keyed _).setSlot hline fun _ _ => EntryRecord.mask_ne_zero hwf

include hold

/-- A record without a line over a slot without one. -/
theorem State.slotWritten_lineless (hnone : ∀ m, namedBy old m = 0) (hr : r.lineless) :
    s.SlotWritten (s.withEntry i (r.toEntry l)) i (some (r.toEntry l)) := by
  have hw : s.Writes (s.withEntry i (r.toEntry l)) .staged ((s.table .staged).setSlot i (some (r.toEntry l))) :=
    ⟨rfl, rfl, rfl, id, rfl, rfl⟩
  have hnew := namedBy_of_lineless (hr.storeLine l)
  have ⟨hcounts, _⟩ := State.accounted_iff.mp hb.accounted
  refine ⟨hw, State.entry_keyed hb hwf hline, hw.accounted_of_slot hb.accounted hcounts (fun m => ?_) (fun m hm => ?_), rfl, rfl⟩
  · rw [hold, hnone, hnew]
  · exact absurd (hnew m) hm

/-- A record without a line over an entry that names one: the line is released. -/
theorem State.slotWritten_release {e : Entry} {n : LineIdx} (he : old = some e) (hn : e.storeLine = some n) (hr : r.lineless) :
    s.SlotWritten ((s.release n).withEntry i (r.toEntry l)) i (some (r.toEntry l)) := by
  have hw : s.Writes ((s.release n).withEntry i (r.toEntry l)) .staged ((s.table .staged).setSlot i (some (r.toEntry l))) :=
    ⟨rfl, rfl, rfl, id, rfl, rfl⟩
  have hnew := namedBy_of_lineless (hr.storeLine l)
  have hpos := s.refs_ne_zero (hold.trans he) hn
  have ⟨hcounts, _⟩ := State.accounted_iff.mp hb.accounted
  refine ⟨hw, State.entry_keyed hb hwf hline, hw.accounted_of_slot hb.accounted (hcounts.release (Nat.pos_of_ne_zero hpos))
    (fun m => ?_) (fun m hm => ?_), rfl, rfl⟩
  · rw [hold, he, hnew, namedBy_of_line hn]
    by_cases hm : m = n
    · subst hm
      simp only [if_pos]
      omega
    · simp only [if_neg hm]
      omega
  · exact absurd (hnew m) hm

section
variable {mask : BitVec 8} {data : List Word} (hbody : r.body = .substitute mask data)

include hbody

/-- A record with a line over a slot without one: the head of the free list. -/
theorem State.slotWritten_allocate {ls : List LineIdx} (hnone : ∀ m, namedBy old m = 0)
    (hcons : s.store.freeList = l :: ls) :
    s.SlotWritten (State.withEntry { s.freeLowTest ls.length with store := s.store.afterAllocation l ls mask data } i
      (r.toEntry l)) i (some (r.toEntry l)) := by
  obtain ⟨hw, hscu, hloader⟩ := s.withEntry_writes ls.length (s.store.afterAllocation l ls mask data) i (r.toEntry l)
  have hnew := namedBy_of_line (EntryRecord.toEntry_storeLine_of hbody l)
  have hfree := hb.accounted.refs_free hcons
  have ⟨hcounts, _⟩ := State.accounted_iff.mp hb.accounted
  refine ⟨hw, State.entry_keyed hb hwf hline, hw.accounted_of_slot hb.accounted (hcounts.allocated hcons mask data)
    (fun m => ?_) (fun m hm => ?_), hscu, hloader⟩
  · simp only [hold, hnone, hnew, Nat.add_zero]
  · rw [hold, hnone]
    by_cases hml : m = l
    · exact hml ▸ State.refs_of_free hfree
    · exact absurd ((hnew m).trans (if_neg hml)) hm

/-- A record with a line over an entry whose line no other table has: that line is filled. -/
theorem State.slotWritten_fill {e : Entry} (he : old = some e) (hl : e.storeLine = some l) :
    s.SlotWritten (State.withEntry { s with store := s.store.fill l mask data } i (r.toEntry l)) i (some (r.toEntry l)) := by
  have hw : s.Writes (State.withEntry { s with store := s.store.fill l mask data } i (r.toEntry l)) .staged
    ((s.table .staged).setSlot i (some (r.toEntry l))) := ⟨rfl, rfl, rfl, id, rfl, rfl⟩
  have hnew := namedBy_of_line (EntryRecord.toEntry_storeLine_of hbody l)
  have ⟨hcounts, hexcl⟩ := State.accounted_iff.mp hb.accounted
  refine ⟨hw, State.entry_keyed hb hwf hline, hw.accounted_of_slot hb.accounted (hcounts.fill l mask data)
    (fun m => ?_) (fun m hm => ?_), rfl, rfl⟩
  · rw [hold, he, hnew, namedBy_of_line hl]
  · rw [hold, he, namedBy_of_line hl]
    by_cases hml : m = l
    · have hpos := Table.refs_pos (hold.trans he) hl
      have hone : (s.table .staged).refs l ≤ 1 := (hexcl l).get _
      rw [if_pos hml, hml]
      omega
    · exact absurd ((hnew m).trans (if_neg hml)) hm

/-- A record with a line over an entry whose line another table has too: a free line, and the release of the other. -/
theorem State.slotWritten_exchange {e : Entry} {n : LineIdx} {ls : List LineIdx} (he : old = some e)
    (hn : e.storeLine = some n) (hcons : s.store.freeList = l :: ls) :
    s.SlotWritten (State.withEntry
      { s.freeLowTest ls.length with store := (s.store.afterAllocation l ls mask data).release n } i (r.toEntry l)) i
      (some (r.toEntry l)) := by
  obtain ⟨hw, hscu, hloader⟩ :=
    s.withEntry_writes ls.length ((s.store.afterAllocation l ls mask data).release n) i (r.toEntry l)
  have hnew := namedBy_of_line (EntryRecord.toEntry_storeLine_of hbody l)
  have hfree := hb.accounted.refs_free hcons
  have hpos := s.refs_ne_zero (hold.trans he) hn
  have hne : n ≠ l := fun h => hpos (h ▸ hfree)
  have ⟨hcounts, _⟩ := State.accounted_iff.mp hb.accounted
  have hreleased := (hcounts.allocated hcons mask data).release (l := n) (Nat.add_pos_left (Nat.pos_of_ne_zero hpos) _)
  refine ⟨hw, State.entry_keyed hb hwf hline, hw.accounted_of_slot hb.accounted hreleased
    (fun m => ?_) (fun m hm => ?_), hscu, hloader⟩
  · rw [hold, he, hnew, namedBy_of_line hn]
    by_cases hmn : m = n
    · subst hmn
      simp only [if_pos, if_neg hne]
      omega
    · simp only [if_neg hmn]
      omega
  · rw [hold, he, namedBy_of_line hn]
    by_cases hml : m = l
    · subst hml
      rw [if_neg hne.symm]
      exact State.refs_of_free hfree
    · exact absurd ((hnew m).trans (if_neg hml)) hm

end

end

/-! ### Commands on a set that no agent works on (R42 to R49) -/

theorem field_lt (p : List Byte) (off n : Nat) : field p off n < 256 ^ n :=
  (leNat_lt _).trans_le (Nat.pow_le_pow_right (by decide) (List.length_take_le n _))

/-- A generation field that is not 0 gives a generation that is not 0. -/
theorem generation_ne_zero {p : List Byte} {off : Nat} (h : field p off 2 ≠ 0) : BitVec.ofNat 16 (field p off 2) ≠ 0 := by
  intro h0
  have hlt : field p off 2 < 65536 := field_lt p off 2
  have hnat : (BitVec.ofNat 16 (field p off 2)).toNat = 0 := congrArg BitVec.toNat h0
  rw [BitVec.toNat_ofNat] at hnat
  omega

/-- Where neither a load nor a verification nor a commit is in hand, and no REVERT waits, nothing is at work. -/
theorem State.phaseFits.quiet {s : State} (h : s.phaseFits) (hst : s.scu.state.still) (hrw : s.revertWaits = false) : s.quiet := by
  obtain ⟨h1, h2, h3⟩ := hst
  unfold State.phaseFits at h
  cases hs : s.scu.state <;> rw [hs] at h
  case empty => exact h
  case opened => exact h
  case sealed => exact h
  case failed => exact h
  case loading => exact absurd hs h1
  case verifying => exact absurd hs h2
  case commitPending => exact absurd hs h3
  case verified =>
    obtain ⟨hv, hc, ⟨hl, hd⟩ | ⟨-, hw, -⟩⟩ := h
    · exact ⟨hl, hv, hc, hd⟩
    · exact absurd (hw.symm.trans hrw) nofun

/-- The staged table is written and its state moves, with nothing at work before and after. -/
theorem State.Writes.quiet_fits {s t : State} {x : Table} (hw : s.Writes t .staged x) (h : s.Fits none)
    (hst : s.scu.state.still) (hrw : s.revertWaits = false) {st : StagedState} {crc : Word} (hstill : st.still)
    (hscu : t.scu = { s.scu with state := st, computedCrc := crc }) (hloader : t.loader = s.loader)
    (hrecord : st.recordFits x) (hkeyed : x.keyed) (hacc : t.accounted) : t.Fits none := by
  obtain ⟨hl, hv, hc, hd⟩ := h.phase.quiet hst hrw
  refine ⟨hw.base h.base nofun ?_ hkeyed hacc, State.phaseFits_of_quiet ⟨?_, ?_, ?_, ?_⟩ ?_, ?_⟩
  · rw [hscu, hw.self]
    exact hrecord
  · rw [hloader]
    exact hl
  · rw [hscu]
    exact hv
  · rw [hscu]
    exact hc
  · rw [hscu]
    exact hd
  · rw [hscu]
    exact hstill
  · rw [hw.port, State.waits_of_quiet hw.inFlight hst.1 (by rw [hscu]; exact hstill.1) (by rw [hscu])]
    exact h.port

theorem StagedState.still_empty : StagedState.empty.still := ⟨nofun, nofun, nofun⟩

theorem StagedState.still_opened : StagedState.opened.still := ⟨nofun, nofun, nofun⟩

theorem StagedState.still_sealed : StagedState.sealed.still := ⟨nofun, nofun, nofun⟩

section
variable {s : State} (h : s.Fits none) (hrw : s.revertWaits = false)

include h hrw

/-- OPEN_SET (R42). -/
theorem State.runOpenSet_fits (p : List Byte) : (s.runOpenSet p).1.Fits none := by
  unfold State.runOpenSet
  split
  · rename_i hst
    have hrec := h.base.record
    rw [hst] at hrec
    have hw : s.Writes { s with scu := { s.scu with state := .opened } } .staged (s.table .staged) :=
      .same rfl rfl rfl id rfl rfl
    refine hw.quiet_fits h (hst ▸ StagedState.still_empty) hrw StagedState.still_opened rfl rfl ?_ (h.base.keyed _) h.base.accounted
    rw [show s.table .staged = Table.empty from hrec]
    exact ⟨rfl, rfl, rfl⟩
  · exact h

/-- CLONE_ACTIVE (R28, R43). -/
theorem State.runCloneActive_fits (p : List Byte) : (s.runCloneActive p).1.Fits none := by
  unfold State.runCloneActive
  split
  · rename_i hst
    have hrec := h.base.record
    rw [hst] at hrec
    have hempty : s.table .staged = Table.empty := hrec
    have hslots := Table.cloneInto_slots (staged := s.table .staged) (act := s.table .active)
      fun i => by rw [hempty]; exact Table.slots_empty i
    obtain ⟨hgen, hcrc, hres⟩ := (s.table .staged).cloneInto_record (s.table .active)
    have hrecount : (s.table .active).Recount ((s.table .staged).cloneInto (s.table .active)) :=
      ⟨fun i => by rw [hslots, Option.map_map]; rfl⟩
    have ⟨hcounts, hexcl⟩ := State.accounted_iff.mp h.base.accounted
    have hle (l : LineIdx) : (s.table .active).refs l ≤ s.tables.refs l := s.tables.refs_get_le _ l
    dsimp only
    have hw : s.Writes { s.setTable .staged ((s.table .staged).cloneInto (s.table .active)) with
        scu := { s.scu with state := .opened }, store := s.store.shareAll (s.table .active) } .staged
        ((s.table .staged).cloneInto (s.table .active)) := ⟨rfl, rfl, rfl, id, rfl, rfl⟩
    refine hw.quiet_fits h (hst ▸ StagedState.still_empty) hrw StagedState.still_opened rfl rfl ?_
      (hrecount.keyed (h.base.keyed _)) (hw.accounted h.base.accounted (hcounts.shareAll hle) (fun l => ?_) fun l => ?_)
    · rw [StagedState.recordFits, hgen, hcrc, hres, hempty]
      exact ⟨rfl, rfl, rfl⟩
    · rw [hrecount.refs, hempty, Table.refs_empty]
      rfl
    · rw [hrecount.refs]
      exact (hexcl l).get _
  · exact h

omit hrw in
/-- SEAL_SET and UNSEAL_SET change the set record of a set at rest. -/
theorem State.setRecord_fits (hrw : s.revertWaits = false) (hst : s.scu.state.still) {st : StagedState} (hstill : st.still)
    {x : Table} (hslots : x.slots = (s.table .staged).slots) (hrecord : st.recordFits x) :
    State.Fits { s.setTable .staged x with scu := { s.scu with state := st, computedCrc := 0 } } none := by
  have hw : s.Writes { s.setTable .staged x with scu := { s.scu with state := st, computedCrc := 0 } } .staged x :=
    ⟨rfl, rfl, rfl, id, rfl, rfl⟩
  refine hw.quiet_fits h hst hrw hstill rfl rfl hrecord ((h.base.keyed _).congr hslots)
    (hw.accounted_of_same h.base.accounted rfl (Table.refs_congr fun i => ?_))
  rw [hslots]

/-- SEAL_SET (R48). -/
theorem State.runSealSet_fits (p : List Byte) : (s.runSealSet p).1.Fits none := by
  unfold State.runSealSet
  split
  · rename_i hst
    have hrec := h.base.record
    rw [hst] at hrec
    obtain ⟨-, -, hres⟩ := hrec
    split
    · exact h
    · rename_i hgen
      refine State.setRecord_fits h hrw (hst ▸ StagedState.still_opened) StagedState.still_sealed rfl ⟨generation_ne_zero hgen, hres⟩
  · exact h

/-- UNSEAL_SET (R49). -/
theorem State.runUnsealSet_fits (p : List Byte) : (s.runUnsealSet p).1.Fits none := by
  unfold State.runUnsealSet
  split
  · rename_i hst
    refine State.setRecord_fits h hrw ?_ StagedState.still_opened rfl ⟨rfl, rfl, rfl⟩
    obtain hst | hst | hst := hst <;> rw [hst] <;> exact ⟨nofun, nofun, nofun⟩
  · exact h

/-- A slot of an OPEN set has been written. -/
theorem State.SlotWritten.fits {t : State} {i : Slot} {o : Option Entry} (hw : s.SlotWritten t i o)
    (hst : s.scu.state = .opened) : t.Fits none := by
  have hrec := h.base.record
  rw [hst] at hrec
  refine hw.writes.quiet_fits h (hst ▸ StagedState.still_opened) hrw StagedState.still_opened ?_ hw.loader hrec hw.keyed
    hw.accounted (crc := s.scu.computedCrc)
  rw [hw.scu, ← hst]

end

section
variable {s : State} {i : Slot} {r : EntryRecord} (hb : s.Base) (hwf : r.wellFormed = true)
  (hline : ∀ (j : Slot) (f : Entry), j ≠ i → (s.table .staged).slots[j] = some f → f.line ≠ r.line)

include hb hwf hline

/-- A record whose tests have passed, over a slot that names no line, is refused or gets its entry. -/
theorem State.putAllocated_cases {mask : BitVec 8} {data : List Word} (hbody : r.body = .substitute mask data)
    (hnone : ∀ m, namedBy (s.table .staged).slots[i] m = 0) :
    (s.putAllocated i r mask data id).1 = s ∨ ∃ o, s.SlotWritten (s.putAllocated i r mask data id).1 i o := by
  cases hfree : s.store.freeList with
  | nil => exact .inl (by rw [State.putAllocated_of_nil hfree])
  | cons l ls =>
    rw [State.putAllocated_of_cons hfree hbody]
    exact .inr ⟨_, State.slotWritten_allocate hb rfl hwf hline hbody hnone hfree⟩

theorem State.addRecord_cases (hnone : ∀ m, namedBy (s.table .staged).slots[i] m = 0) :
    (s.addRecord i r).1 = s ∨ ∃ o, s.SlotWritten (s.addRecord i r).1 i o := by
  have hless (hr : r.lineless) : (s.addRecord i r).1 = s ∨ ∃ o, s.SlotWritten (s.addRecord i r).1 i o := by
    rw [State.addRecord_of_lineless hr 0]
    exact .inr ⟨_, State.slotWritten_lineless hb rfl hwf hline hnone hr⟩
  cases hbody : r.body with
  | substitute mask data =>
    rw [State.addRecord_of_substitute hbody]
    exact State.putAllocated_cases hb hwf hline hbody hnone
  | redirect ce target => exact hless fun _ _ h => absurd (hbody.symm.trans h) nofun
  | watch threshold dir => exact hless fun _ _ h => absurd (hbody.symm.trans h) nofun

theorem State.replaceEntry_cases {old : Entry} (hold : (s.table .staged).slots[i] = some old) :
    (s.replaceEntry i old r).1 = s ∨ ∃ o, s.SlotWritten (s.replaceEntry i old r).1 i o := by
  cases hl : old.storeLine with
  | none =>
    have hnone (m : LineIdx) : namedBy (s.table .staged).slots[i] m = 0 := by
      rw [hold]
      exact namedBy_of_lineless hl m
    have hless (hr : r.lineless) : (s.replaceEntry i old r).1 = s ∨ ∃ o, s.SlotWritten (s.replaceEntry i old r).1 i o := by
      rw [State.replaceEntry_lineless hl hr 0]
      exact .inr ⟨_, State.slotWritten_lineless hb rfl hwf hline hnone hr⟩
    cases hbody : r.body with
    | substitute mask data =>
      rw [State.replaceEntry_fresh hl hbody]
      exact State.putAllocated_cases hb hwf hline hbody hnone
    | redirect ce target => exact hless fun _ _ h => absurd (hbody.symm.trans h) nofun
    | watch threshold dir => exact hless fun _ _ h => absurd (hbody.symm.trans h) nofun
  | some n =>
    have hless (hr : r.lineless) : (s.replaceEntry i old r).1 = s ∨ ∃ o, s.SlotWritten (s.replaceEntry i old r).1 i o := by
      rw [State.replaceEntry_release hl hr 0]
      exact .inr ⟨_, State.slotWritten_release hb hold hwf hline rfl hl hr⟩
    cases hbody : r.body with
    | substitute mask data =>
      by_cases hone : s.store.lines[n].refCount = 1
      · rw [State.replaceEntry_fill hl hbody hone]
        exact .inr ⟨_, State.slotWritten_fill hb hold hwf hline hbody rfl hl⟩
      · rw [State.replaceEntry_allocate hl hbody hone]
        cases hfree : s.store.freeList with
        | nil => exact .inl (by rw [State.putAllocated_of_nil hfree])
        | cons l ls =>
          rw [State.putAllocated_of_cons hfree hbody]
          exact .inr ⟨_, State.slotWritten_exchange hb hold hwf hline hbody rfl hl hfree⟩
    | redirect ce target => exact hless fun _ _ h => absurd (hbody.symm.trans h) nofun
    | watch threshold dir => exact hless fun _ _ h => absurd (hbody.symm.trans h) nofun

end

section
variable {s : State} (h : s.Fits none) (hrw : s.revertWaits = false)

include h hrw

/-- ADD_ENTRY (R45). -/
theorem State.runAddEntry_fits (p : List Byte) : (s.runAddEntry p).1.Fits none := by
  unfold State.runAddEntry
  split
  · rename_i hst
    split
    · exact h
    · rename_i r hr
      split
      · exact h
      · rename_i hfind
        split
        · exact h
        · rename_i i hfree
          obtain ⟨hwf, -⟩ := parseRecord_eq_some_iff.mp hr
          obtain ⟨hi, -⟩ := Table.lowestFree_eq_some_iff.mp hfree
          have hline := Table.find_eq_none_iff.mp (Option.not_isSome_iff_eq_none.mp hfind)
          have hcases := State.addRecord_cases (i := i) h.base hwf (fun j f _ hj => hline j f hj)
            fun m => by rw [hi]; rfl
          change (s.addRecord i r).1.Fits none
          obtain hsame | ⟨o, hw⟩ := hcases
          · rw [hsame]
            exact h
          · exact State.SlotWritten.fits h hrw hw hst
  · exact h

/-- MODIFY_ENTRY (R46). -/
theorem State.runModifyEntry_fits (p : List Byte) : (s.runModifyEntry p).1.Fits none := by
  unfold State.runModifyEntry
  split
  · rename_i hst
    split
    · exact h
    · rename_i r hr
      split
      · exact h
      · rename_i i hfind
        split
        · exact h
        · rename_i old hold
          obtain ⟨hwf, -⟩ := parseRecord_eq_some_iff.mp hr
          obtain ⟨e, he, hline⟩ := Table.slot_of_find hfind
          obtain hsame | ⟨o, hw⟩ := State.replaceEntry_cases h.base hwf
            (fun j f hj hf hl => hj ((h.base.keyed _).slot_unique hf he (hl.trans hline.symm))) hold
          · rw [hsame]
            exact h
          · exact State.SlotWritten.fits h hrw hw hst
  · exact h

/-- REMOVE_ENTRY (R47). -/
theorem State.runRemoveEntry_fits (p : List Byte) : (s.runRemoveEntry p).1.Fits none := by
  unfold State.runRemoveEntry
  split
  · rename_i hst
    split
    · exact h
    · split
      · exact h
      · rename_i i hfind
        split
        · exact h
        · rename_i e he
          refine State.SlotWritten.fits h hrw (i := i) (o := none) ⟨⟨rfl, rfl, rfl, id, rfl, rfl⟩, (h.base.keyed _).setSlot_none i, ?_,
            rfl, rfl⟩ hst
          have hwrites : s.Writes (State.setTable { s with store := s.store.releaseEntry e } .staged
            ((s.table .staged).setSlot i none)) .staged ((s.table .staged).setSlot i none) := ⟨rfl, rfl, rfl, id, rfl, rfl⟩
          have ⟨hcounts, _⟩ := State.accounted_iff.mp h.base.accounted
          unfold LineStore.releaseEntry at hwrites ⊢
          cases hl : e.storeLine with
          | none =>
            rw [hl] at hwrites
            refine hwrites.accounted_of_slot h.base.accounted hcounts (fun m => ?_) fun m hm => absurd rfl hm
            rw [he, namedBy_of_lineless hl]
            rfl
          | some l =>
            rw [hl] at hwrites
            have hpos := s.refs_ne_zero he hl
            refine hwrites.accounted_of_slot h.base.accounted (hcounts.release (Nat.pos_of_ne_zero hpos)) (fun m => ?_)
              fun m hm => absurd rfl hm
            rw [he, namedBy_of_line hl]
            show _ = s.tables.refs m + 0
            by_cases hm : m = l
            · subst hm
              simp only [if_pos]
              omega
            · simp only [if_neg hm]
              omega
  · exact h

/-- Whatever works on the staged set, except a start-up load and a commit, is abandoned; a load is the command's then. -/
theorem State.phaseFits.discarded (hst : s.scu.state ≠ .commitPending) (hown : s.startUpOwnsSet = false) :
    (s.loader.state = .idle ∨ s.loader.kind = .command) ∧ s.scu.commit = none ∧ s.scu.deferred = none := by
  have hphase := h.phase
  have hcommand (hk : s.loader.kind ≠ .startUp) : s.loader.kind = .command := by
    cases hkind : s.loader.kind with
    | command => rfl
    | startUp => exact absurd hkind hk
  by_cases hstill : s.scu.state.still
  · obtain ⟨hl, -, hc, hd⟩ := hphase.quiet hstill hrw
    exact ⟨.inl hl, hc, hd⟩
  · unfold State.phaseFits at hphase
    unfold State.startUpOwnsSet at hown
    cases hs : s.scu.state <;> rw [hs] at hphase hown hst hstill
    case loading =>
      obtain ⟨-, -, -, hc, hd, -⟩ := hphase
      exact ⟨.inr (hcommand fun hk => by simp [hk] at hown), hc, hd⟩
    case verifying =>
      obtain ⟨v, hv, -, hc, hd, ⟨hl, -⟩ | ⟨-, -, -, hwho⟩⟩ := hphase
      · exact ⟨.inl hl, hc, hd⟩
      · refine ⟨.inr (hcommand fun hk => ?_), hc, hd⟩
        rw [hk] at hwho
        simp [hv, hwho, LoadKind.starter] at hown
    case commitPending => exact absurd rfl hst
    all_goals exact absurd ⟨nofun, nofun, nofun⟩ hstill

theorem State.discard_fits (hst : s.scu.state ≠ .commitPending) (hown : s.startUpOwnsSet = false) : s.discard.Fits none := by
  obtain ⟨hl, hc, hd⟩ := State.phaseFits.discarded h hrw hst hown
  have hreleased : s.Writes (s.releaseRole .staged) .staged Table.empty := ⟨rfl, rfl, rfl, id, rfl, rfl⟩
  have hacc := hreleased.accounted_of_released h.base.accounted rfl Table.refs_empty
  let u : State :=
    { s.releaseRole .staged with
      scu := { s.scu with state := .empty, verifier := none, computedCrc := 0 }
      loader := if s.loader.kind = .command then { s.loader with state := .idle } else s.loader }
  have hw : s.Writes u .staged Table.empty := ⟨rfl, rfl, rfl, id, rfl, rfl⟩
  have hbase : u.Base := hw.base h.base nofun hw.self Table.keyed_empty hacc
  have hidle : u.loader.state = .idle := by
    show (if s.loader.kind = .command then { s.loader with state := .idle } else s.loader).state = .idle
    split
    · rfl
    · rename_i hk
      exact hl.resolve_right hk
  have hport : ((s.port.giveUp .loader).giveUp .verifier).Carries s.hostOnly := by
    have hboth := (h.port.giveUp .loader).giveUp .verifier
    have heq : Function.update (Function.update (s.waitsBut none) .loader false) .verifier false = s.hostOnly := by
      funext who
      cases who <;> simp [State.waitsBut, State.waits, State.hostOnly]
    exact heq ▸ hboth
  refine ⟨hbase.setPort _, State.phaseFits_of_quiet ⟨hidle, rfl, hc, hd⟩ StagedState.still_empty, ?_⟩
  rw [State.waitsBut_eq_hostOnly (off := none) StagedState.still_empty.1 (.inl rfl) nofun]
  exact hport

/-- DISCARD_SET (R56). -/
theorem State.runDiscardSet_fits (p : List Byte) : (s.runDiscardSet p).1.Fits none := by
  unfold State.runDiscardSet
  split
  · exact h
  · split
    · exact h
    · rename_i hrefused
      exact State.discard_fits h hrw (fun hp => hrefused (.inl hp)) (Bool.eq_false_iff.mpr fun ho => hrefused (.inr ho))

end

end Sys2Proof.Machine
end

section
/-! PROOF. The image loader keeps the invariants (R81 to R91). -/

namespace Sys2Proof.Machine

open Sys2Proof

set_option Elab.async false

/-! ### A load whose request has just ended -/

/-- A load is in hand, and the loader has no request at the port. -/
structure State.Loading (s : State) : Prop where
  base  : s.Base
  state : s.scu.state = .loading
  loads : s.loads
  port  : s.port.Carries s.hostOnly

theorem State.waitsBut_loader {s : State} (hv : s.scu.verifier = none) : s.waitsBut (some .loader) = s.hostOnly := by
  funext who
  cases who <;> simp [State.waitsBut, State.waits, State.hostOnly, hv]

theorem State.phaseFits.loading {s : State} (h : s.phaseFits) (hst : s.scu.state = .loading) : s.loads := by
  unfold State.phaseFits at h
  rw [hst] at h
  exact h

theorem State.Fits.loading {s : State} (h : s.Fits (some .loader)) (hst : s.scu.state = .loading) : s.Loading := by
  have hloads := h.phase.loading hst
  have ⟨_, _, hv, _⟩ := hloads
  refine ⟨h.base, hst, hloads, ?_⟩
  rw [← State.waitsBut_loader hv]
  exact h.port

/-- The loader at work, by another of its states. -/
theorem State.Loading.setLoader {s : State} (h : s.Loading) {l : Loader} (hkind : l.kind = s.loader.kind)
    (hl : l.state = .header ∨ (l.state = .body ∧ headerTest l.header = none)) :
    State.Loading { s with loader := l } := by
  obtain ⟨hbase, hst, ⟨-, hunset, hrest⟩, hport⟩ := h
  exact ⟨hbase.setLoader l, hst, ⟨hl, fun hk => hunset (hkind ▸ hk), hrest⟩, hport⟩

/-- The next word is asked for. -/
theorem State.Loading.loaderRequest {s : State} (h : s.Loading) : s.loaderRequest.Fits none := by
  obtain ⟨hbase, hst, hloads, hport⟩ := h
  have ⟨_, _, hv, _⟩ := hloads
  refine ⟨hbase.setPort _, ?_, ?_⟩
  · unfold State.phaseFits
    dsimp only [State.loaderRequest, State.request]
    rw [hst]
    exact hloads
  · rw [State.waitsBut_none]
    refine MemPort.Carries.request_off (s := s) (who := .loader) ?_ (beq_iff_eq.mpr hst) _ _
    rw [State.waitsBut_loader hv]
    exact hport

/-- A load that fails leaves an EMPTY set and an idle loader (R86, R91). -/
theorem State.Loading.fails {s : State} (h : s.Loading) (reason : ParseReason) : (s.loadFailed reason).Fits none := by
  obtain ⟨hbase, hst, ⟨-, -, hv, hc, hd, -⟩, hport⟩ := h
  let u : State := { s.releaseRole .staged with scu := { s.scu with state := .empty, computedCrc := 0 } }
  have hw : s.Writes u .staged Table.empty := ⟨rfl, rfl, rfl, id, rfl, rfl⟩
  have hjudged : u.Judged := by
    refine ⟨hw.base hbase nofun hw.self Table.keyed_empty (hw.accounted_of_released hbase.accounted rfl Table.refs_empty),
      StagedState.still_empty, hv, hc, hd, ?_⟩
    rw [← State.waitsBut_none, State.waitsBut_eq_hostOnly (s := u) (off := none) StagedState.still_empty.1 (.inl hv) nofun]
    exact hport
  unfold State.loadFailed
  dsimp only
  cases s.loader.kind with
  | command => exact ((hjudged.alike (State.raise_alike _ _ _)).setLoader _).fits rfl
  | startUp => exact (hjudged.alike (State.raise_alike _ _ _)).endStartUpLoad

/-! ### The end of the body (R85) -/

/-- A header that passes its tests has a generation. -/
theorem headerGeneration_ne_zero {h : List Byte} (hh : headerTest h = none) : headerGeneration h ≠ 0 := by
  have hgood : headerGood h := by
    by_contra hbad
    rw [headerTest_of_not_good hbad] at hh
    cases hh
  obtain ⟨-, -, -, -, hgen, -⟩ := hgood
  exact generation_ne_zero hgen

theorem State.Loading.endOfBody {s : State} (h : s.Loading) (hh : headerTest s.loader.header = none) :
    s.endOfBody.Fits none := by
  unfold State.endOfBody
  split
  · exact h.fails _
  · obtain ⟨hbase, -, ⟨-, hunset, -, hc, hd, -⟩, hport⟩ := h
    let x : Table :=
      { s.table .staged with
        generation := headerGeneration s.loader.header, expectedCrc := headerSetCrc s.loader.header, result := .none }
    let u : State :=
      { s.setTable .staged x with
        scu := { s.scu with state := .sealed, computedCrc := 0 }, loader := { s.loader with state := .verify } }
    have hw : s.Writes u .staged x := ⟨rfl, rfl, rfl, id, rfl, rfl⟩
    have hgen := headerGeneration_ne_zero hh
    have hstarter : (match s.loader.kind with | .command => VerifyStarter.commandLoad | .startUp => .startUpLoad) =
        s.loader.kind.starter := by cases s.loader.kind <;> rfl
    refine State.MayVerify.starts (s := u) ⟨hw.base hbase nofun ?_ ((hbase.keyed _).congr rfl)
      (hw.accounted_of_same hbase.accounted rfl fun _ => rfl), ?_, ⟨hc, hd, .inr ⟨rfl, hh, fun hk => ?_, ?_⟩⟩, hport⟩
    · rw [hw.self]
      exact ⟨hgen, rfl⟩
    · rw [hw.self]
      exact hgen
    · exact (hw.unset hbase.distinct rfl).mpr (hunset hk)
    · exact hstarter

theorem State.Loading.nextRecord {s : State} (h : s.Loading) (hh : headerTest s.loader.header = none) :
    s.nextRecord.Fits none := by
  unfold State.nextRecord
  split
  · exact h.endOfBody hh
  · exact h.loaderRequest

theorem State.Loading.headerRead {s : State} (h : s.Loading) : s.headerRead.Fits none := by
  unfold State.headerRead
  split
  · exact h.fails _
  · rename_i hh
    exact State.Loading.nextRecord (h.setLoader rfl (.inr ⟨rfl, hh⟩)) hh

/-! ### A record (R84) -/

/-- A record has been placed in a free slot. -/
theorem State.Loading.slotWritten {s t : State} {i : Slot} {o : Option Entry} (h : s.Loading) (hw : s.SlotWritten t i o)
    (hbody : s.loader.state = .body) (hh : headerTest s.loader.header = none) (n k : Nat) :
    (State.nextRecord { t with loader := { t.loader with remaining := n, sum := k, record := [] } }).Fits none := by
  obtain ⟨hbase, hst, ⟨-, hunset, hv, hc, hd, hrw⟩, hport⟩ := h
  obtain ⟨hwrites, hkeyed, hacc, hscu, hloader⟩ := hw
  have hrec := hbase.record
  rw [hst] at hrec
  have hbase' : t.Base := by
    refine hwrites.base hbase nofun ?_ hkeyed hacc
    rw [hscu, hwrites.self, hst]
    exact hrec
  have hhead : headerTest t.loader.header = none := hloader ▸ hh
  refine State.Loading.nextRecord ⟨hbase'.setLoader _, ?_, ⟨.inr ⟨?_, hhead⟩, fun hk => ?_, ?_, ?_, ?_, ?_⟩, ?_⟩ hhead
  · exact (congrArg Scu.state hscu).trans hst
  · exact (congrArg Loader.state hloader).trans hbody
  · exact (hwrites.unset hbase.distinct rfl).mpr (hunset ((congrArg Loader.kind hloader).symm.trans hk))
  · exact (congrArg Scu.verifier hscu).trans hv
  · exact (congrArg Scu.commit hscu).trans hc
  · exact (congrArg Scu.deferred hscu).trans hd
  · exact hwrites.revertWaits.trans hrw
  · have hhost : State.hostOnly { t with loader := { t.loader with remaining := n, sum := k, record := [] } } = s.hostOnly := by
      funext who
      exact congrArg (who == .host && ·) hwrites.inFlight
    rw [hhost]
    show t.port.Carries _
    rw [hwrites.port]
    exact hport

theorem State.Loading.recordRead {s : State} (h : s.Loading) (hbody : s.loader.state = .body)
    (hh : headerTest s.loader.header = none) (p : List Byte) : (s.recordRead p).Fits none := by
  cases hr : parseRecord p with
  | none =>
    rw [State.recordRead_of_malformed hr]
    exact h.fails _
  | some r =>
    cases hfind : (s.table .staged).find r.line with
    | some j =>
      rw [State.recordRead_of_present hr (by rw [hfind]; nofun)]
      exact h.fails _
    | none =>
      cases hfree : (s.table .staged).lowestFree with
      | none =>
        unfold State.recordRead
        simp only [hr, hfind, hfree, Option.isSome_none, Bool.false_eq_true, if_false]
        exact h.fails _
      | some i =>
        obtain ⟨hwf, -⟩ := parseRecord_eq_some_iff.mp hr
        obtain ⟨hi, -⟩ := Table.lowestFree_eq_some_iff.mp hfree
        have hline : ∀ (j : Slot) (f : Entry), j ≠ i → (s.table .staged).slots[j] = some f → f.line ≠ r.line :=
          fun j f _ hj => Table.find_eq_none_iff.mp hfind j f hj
        have hnone (m : LineIdx) : namedBy (none : Option Entry) m = 0 := rfl
        have hless (hless : r.lineless) : (s.recordRead p).Fits none := by
          rw [State.recordRead_lineless hr hfind hfree hless 0]
          exact h.slotWritten (State.slotWritten_lineless h.base hi hwf hline hnone hless) hbody hh _ _
        cases hb : r.body with
        | redirect ce target => exact hless fun _ _ h => absurd (hb.symm.trans h) nofun
        | watch threshold dir => exact hless fun _ _ h => absurd (hb.symm.trans h) nofun
        | substitute mask data =>
          cases hlist : s.store.freeList with
          | nil =>
            rw [State.recordRead_noLine hr hfind hfree hb hlist]
            exact h.fails _
          | cons l ls =>
            rw [State.recordRead_substitute hr hfind hfree hb hlist]
            exact h.slotWritten (State.slotWritten_allocate h.base hi hwf hline hb hnone hlist) hbody hh _ _

/-! ### The loader's words (R81, R86) -/

/-- The loader has got a word. -/
theorem State.loaderWord_fits {s : State} (h : s.Fits (some .loader)) (hwait : s.waits .loader = true) (w : Word) :
    (s.loaderWord w).Fits none := by
  have hl := h.loading (beq_iff_eq.mp hwait)
  obtain ⟨hstate, -⟩ := hl.loads
  unfold State.loaderWord
  obtain hst | ⟨hst, hh⟩ := hstate
  · rw [hst]
    dsimp only
    have htaken := hl.setLoader
      (l := { s.loader with header := s.loader.header ++ mdBytes w, cursor := s.loader.cursor + 4 }) rfl (.inl hst)
    split
    · exact htaken.loaderRequest
    · exact htaken.headerRead
  · rw [hst]
    dsimp only
    have htaken := hl.setLoader
      (l := { s.loader with record := s.loader.record ++ mdBytes w, cursor := s.loader.cursor + 4 }) rfl (.inr ⟨hst, hh⟩)
    split
    · exact htaken.loaderRequest
    · split
      · exact htaken.fails _
      · split
        · exact htaken.loaderRequest
        · exact htaken.recordRead hst hh _

/-- A read of the loader has failed. -/
theorem State.loaderReadFailed_fits {s : State} (h : s.Fits (some .loader)) (hwait : s.waits .loader = true) :
    s.loaderReadFailed.Fits none := by
  have hl := h.loading (beq_iff_eq.mp hwait)
  obtain ⟨hstate, -⟩ := hl.loads
  rw [State.loaderReadFailed_eq (hstate.imp id And.left)]
  exact hl.fails _

/-- LOAD_IMAGE when it executes (R82). -/
theorem State.runLoadImage_fits {s : State} (h : s.Fits none) (hrw : s.revertWaits = false) (p : List Byte) :
    (s.runLoadImage p).1.Fits none := by
  unfold State.runLoadImage
  split
  · rename_i hst
    split
    · exact h
    · rename_i ce at0 hargs
      obtain ⟨-, hv, hc, hd⟩ := h.phase.quiet (hst ▸ StagedState.still_empty) hrw
      have hrec := h.base.record
      rw [hst] at hrec
      have hempty : s.table .staged = Table.empty := hrec
      have hw : s.Writes { s with
          scu := { s.scu with state := .loading }
          loader := { Loader.reset with state := .header, kind := .command, ce := ce, cursor := at0 } }
          .staged (s.table .staged) := .same rfl rfl rfl id rfl rfl
      refine State.Loading.loaderRequest ⟨hw.base h.base nofun ?_ (h.base.keyed _) h.base.accounted, rfl,
        ⟨.inl rfl, nofun, hv, hc, hd, hrw⟩, ?_⟩
      · rw [hw.self, hempty]
        exact ⟨rfl, rfl, rfl⟩
      · have hport := h.port
        rw [State.waitsBut_eq_hostOnly (off := none) (by rw [hst]; nofun) (.inl hv) nofun] at hport
        exact hport
  · exact h

/-- RELEASE_HOST (R95). -/
theorem State.runReleaseHost_fits {s : State} (h : s.Fits none) (p : List Byte) : (s.runReleaseHost p).1.Fits none := by
  have hlifted : s.Alike { s with hbi := { s.hbi with held := false } } := ⟨rfl, nofun, rfl, rfl, rfl, rfl, rfl, rfl, id⟩
  unfold State.runReleaseHost
  split
  · exact hlifted.fits h
  · exact h

end Sys2Proof.Machine
end

section
/-! PROOF. The invariants over every step (O57, O58, O59): each command keeps them. -/

namespace Sys2Proof.Machine

open Sys2Proof

set_option Elab.async false

/-! ### The ends of an access and the step of the time base (R126, R127, R134) -/

theorem State.Fits.setPort {s : State} {off : Option Requester} (h : s.Fits off) {p : MemPort}
    (hp : p.Carries (s.waitsBut off)) : State.Fits { s with port := p } off :=
  ⟨h.base.setPort p, h.phase.congr rfl rfl rfl (fun _ => rfl) rfl, hp⟩

/-- The port is freed for a requester that waits, and its words may have been disturbed. -/
theorem State.freed_fits {s : State} {q : Access} (h : s.Fits none) (hq : s.port.access = some q)
    (hup : q.givenUp = false) {u : State} (hu : s.freePort.Alike u) : u.Fits (some q.who) ∧ u.waits q.who = true := by
  obtain ⟨hfree, hwait⟩ := State.freePort_fits_off h hq hup
  exact ⟨hu.fits hfree, hu.waits ▸ hwait⟩

/-- ACCESS_COMPLETE (R126). -/
theorem execAccessComplete_fits {s t : State} {md : Word} {us : List Upset} (h : s.Fits none)
    (hexec : execAccessComplete md us s = .next t) : t.Fits none := by
  obtain rfl := Host.Outcome.next.inj hexec
  refine h.whenUp ?_
  split
  · exact h
  · rename_i q hq
    split
    · exact State.freePort_fits h hq ‹_›
    · rename_i hup
      obtain ⟨hfits, hwait⟩ := State.freed_fits h hq (Bool.eq_false_iff.mpr hup) (s.freePort.upset_alike us)
      cases hwho : q.who <;> rw [hwho] at hfits hwait
      case host => exact State.hostWord_fits hfits hwait md
      case loader => exact State.loaderWord_fits hfits hwait md
      case verifier => exact State.verifierWord_fits hfits hwait md

/-- The expiry of an access (R127, R128). -/
theorem State.expireAccess_fits {s : State} (h : s.Fits none) : s.expireAccess.Fits none := by
  unfold State.expireAccess
  split
  · exact h
  · rename_i q hq
    split
    · split
      · exact (State.raiseAll_alike _ _).fits (State.freePort_fits h hq ‹_›)
      · rename_i hup
        have hup := Bool.eq_false_iff.mpr hup
        cases hwho : q.who with
        | host =>
          obtain ⟨hfits, hwait⟩ := State.freed_fits h hq hup (.refl _)
          rw [hwho] at hfits hwait
          exact State.hostFailed_fits hfits hwait _
        | loader =>
          obtain ⟨hfits, hwait⟩ := State.freed_fits h hq hup (State.raiseAll_alike _ [q.timeoutRaise])
          rw [hwho] at hfits hwait
          exact State.loaderReadFailed_fits hfits hwait
        | verifier =>
          obtain ⟨hfits, hwait⟩ := State.freed_fits h hq hup (State.raiseAll_alike _ [q.timeoutRaise])
          rw [hwho] at hfits hwait
          obtain ⟨v, hv⟩ := Option.isSome_iff_exists.mp (hwait : Option.isSome _ = true)
          exact (hfits.verifying hv).ends nofun
    · exact h

/-- A step of the time base leaves every request where it is. -/
theorem State.tick_fits {s : State} (h : s.Fits none) : s.tick.Fits none := by
  have hport := h.port.congr (q := s.tick.port) (fun who => by cases who <;> rfl) ?_ Option.map_eq_none_iff.mp
  · obtain ⟨⟨h1, h2, h3, h4, h5, h6⟩, hphase, -⟩ := h
    exact ⟨⟨h1, h2, h3, h4, h5, h6⟩, hphase.congr rfl rfl rfl (fun _ => rfl) rfl, hport⟩
  · show (s.port.access.map fun q => { q with steps := q.steps + 1 }).bind _ = s.port.access.bind _
    cases s.port.access <;> rfl

/-! ### The service port (R162 to R168) -/

/-- The port of the service master changes, but not the executing command. -/
theorem State.setSvp_alike (s : State) {p : ServicePort} (h : p.executing = s.svp.executing) :
    s.Alike { s with svp := p } := ⟨rfl, id, rfl, rfl, rfl, rfl, rfl, h, id⟩

theorem State.clockByte_alike (s : State) (b : Byte) : s.Alike (s.clockByte b) := by
  have hto : (s.svp.clockedTo (s.svp.shifter ++ [b])).executing = s.svp.executing := s.svp.clockedOut_executing _
  obtain ⟨-, hbyte⟩ | ⟨v, tag, detail, hbyte⟩ | ⟨c, choices, room, hbyte, -⟩ := s.clockByte_cases b <;> rw [hbyte]
  · exact s.setSvp_alike hto
  · exact (s.setSvp_alike (p := (s.svp.clockedTo (s.svp.shifter ++ [b])).judged s.svp.commands v tag) hto).trans
      (State.raise_alike _ _ _)
  · have hreceived : ((s.svp.clockedTo (s.svp.shifter ++ [b])).received room c).executing = s.svp.executing := by
      rw [ServicePort.received_eq]
      exact hto
    exact ⟨rfl, id, rfl, rfl, rfl, rfl, rfl, hreceived, id⟩

theorem State.clock_alike (s : State) (bs : List Byte) : s.Alike (s.clock bs) := by
  induction bs generalizing s with
  | nil => exact .refl s
  | cons b bs ih => exact (s.clockByte_alike b).trans (ih _)

theorem State.inPeriod_alike (s : State) (bs : List Byte) : s.Alike (s.inPeriod bs) := by
  unfold State.inPeriod
  split
  · exact s.clock_alike bs
  · exact .refl s

theorem State.decideAtEnd_alike (s : State) : s.Alike s.decideAtEnd := by
  have hjudged (v : Verdict) (tag : Byte) : s.Alike { s with svp := s.svp.judged s.svp.commands v tag } := s.setSvp_alike rfl
  unfold State.decideAtEnd
  split
  · exact .refl s
  · split
    · exact hjudged .poll 0
    · exact hjudged .poll 0
    · exact (hjudged .refusedFormat _).trans (State.raise_alike _ _ _)
    · exact (hjudged .refusedFormat _).trans (State.raise_alike _ _ _)
    · rename_i c crcOk _
      cases crcOk with
      | true =>
        show s.Alike (s.acceptFrame c)
        rw [s.acceptFrame_eq, ServicePort.received_eq]
        exact s.setSvp_alike rfl
      | false => exact (hjudged .refusedCrc c.tag).trans (State.raise_alike _ _ _)

theorem execSelectPeriodEnd_alike {bs : List Byte} {s t : State} (h : execSelectPeriodEnd bs s = .next t) : s.Alike t := by
  obtain rfl := Host.Outcome.next.inj h
  have hshut (x : State) (m : Bool) : x.Alike
      { x with svp := { x.svp with ssLow := false, ignoring := false, decided := false, out := none, partialMark := m } } :=
    x.setSvp_alike rfl
  split
  · exact ((s.clock_alike bs).trans (State.decideAtEnd_alike _)).trans (hshut _ _)
  · exact hshut s s.svp.partialMark

theorem execSelectPeriodStart_alike {s t : State} (h : execSelectPeriodStart s = .next t) : s.Alike t := by
  obtain rfl := Host.Outcome.next.inj h
  split
  · exact .refl s
  · split
    · exact s.setSvp_alike rfl
    · exact s.setSvp_alike rfl

theorem execUnknownCommand_alike {s t : State} (h : execUnknownCommand s = .next t) : s.Alike t := by
  obtain rfl := Host.Outcome.next.inj h
  split
  · exact .refl s
  · rename_i q u hnext
    split
    · exact .refl s
    · obtain ⟨-, hu⟩ := State.offers_of_nextCommand hnext
      rw [hu]
      exact (s.taken_alike _).trans (State.respond_alike _ _ _ _)

/-! ### The resets (R80, R96) -/

/-- The start-up behaviour over blocks at their reset values (R90). -/
theorem State.Fresh.enterStartUp {s : State} (h : s.Fresh) : s.enterStartUp.Fits none := by
  have hheld (b : Bool) : State.Fresh { s with hbi := { s.hbi with held := b } } :=
    ⟨h.tables, h.roles, h.scu, h.loader, h.executing, h.lines, h.freeList, h.badList, h.idle, h.access, h.waiting⟩
  cases hm : s.straps.mode.loads with
  | false =>
    rw [State.enterStartUp_of_not_load hm]
    exact State.wf_iff.mp (hheld _).wf
  | true =>
    rw [State.enterStartUp_of_load hm]
    let u : State := { s with hbi := { s.hbi with held := s.straps.mode.holds } }
    have hu : u.Fresh := hheld _
    have hfits : u.Fits none := State.wf_iff.mp hu.wf
    have hempty : u.table .staged = Table.empty := hu.table .staged
    have hv : u.scu.verifier = none := by rw [show u.scu = Scu.reset from h.scu]; rfl
    have hc : u.scu.commit = none := by rw [show u.scu = Scu.reset from h.scu]; rfl
    have hd : u.scu.deferred = none := by rw [show u.scu = Scu.reset from h.scu]; rfl
    have hst : u.scu.state = .empty := by rw [show u.scu = Scu.reset from h.scu]; rfl
    have hw : u.Writes { u with
        scu := { u.scu with state := .loading }
        loader := { Loader.reset with
          state := .header, kind := .startUp, ce := .ce0,
          cursor := BitVec.ofNat 26 (Config.imageSlotOffset s.straps.imgSel.toNat) } } .staged (u.table .staged) :=
      .same rfl rfl rfl id rfl rfl
    refine State.Loading.loaderRequest ⟨hw.base hfits.base nofun ?_ (hfits.base.keyed _) hfits.base.accounted, rfl,
      ⟨.inl rfl, fun _ => ⟨?_, ?_⟩, hv, hc, hd, hu.revertWaits⟩, ?_⟩
    · rw [hw.self, hempty]
      exact ⟨rfl, rfl, rfl⟩
    · exact congrArg Table.generation (hu.table .active)
    · exact congrArg Table.generation (hu.table .retained)
    · have hport := hfits.port
      rw [State.waitsBut_eq_hostOnly (off := none) (by rw [hst]; nofun) (.inl hv) nofun] at hport
      exact hport

/-- RESETn low leaves blocks at their reset values (R38, R80, R120, R160). -/
theorem State.pinResetBlocks_fresh (s : State) {low : Bool} {x : Straps} :
    State.Fresh { s.pinResetBlocks with inReset := low, straps := x } where
  tables := rfl
  roles := rfl
  scu := rfl
  loader := rfl
  executing := rfl
  lines l := by
    have hl := s.store.afterReset_lines l
    show s.store.afterReset.lines[l].refCount = 0 ∧ s.store.afterReset.lines[l].bad = false
    rw [hl]
    exact ⟨rfl, rfl⟩
  freeList := s.store.afterReset_lists.1
  badList := s.store.afterReset_lists.2
  idle := rfl
  access := nofun
  waiting := ⟨rfl, rfl, rfl⟩

/-- A service reset at a boundary leaves blocks at their reset values (R96, R124, R161). -/
theorem State.serviceResetBlocks_fresh {s : State} (h : s.inFlight = false) : s.serviceResetBlocks.Fresh where
  tables := rfl
  roles := rfl
  scu := rfl
  loader := rfl
  executing := rfl
  lines l := by
    have hl := s.store.afterReset_lines l
    show s.store.afterReset.lines[l].refCount = 0 ∧ s.store.afterReset.lines[l].bad = false
    rw [hl]
    exact ⟨rfl, rfl⟩
  freeList := s.store.afterReset_lists.1
  badList := s.store.afterReset_lists.2
  idle := h
  access := fun q hq => by
    obtain ⟨p, -, rfl⟩ := Option.map_eq_some_iff.mp hq
    rfl
  waiting := ⟨rfl, rfl, rfl⟩

theorem execServiceReset_fits {s t : State} (h : s.Fits none) (hexec : execServiceReset s = .next t) : t.Fits none := by
  obtain rfl := Host.Outcome.next.inj hexec
  refine h.whenUp ?_
  split
  · rename_i hdue
    rw [Bool.and_eq_true, Bool.not_eq_true'] at hdue
    obtain ⟨-, hin⟩ := hdue
    exact (State.serviceResetBlocks_fresh hin).enterStartUp
  · exact h

theorem execPinResetEnd_fits {s t : State} {b k : BitVec 2} (h : s.Fits none) (hexec : execPinResetEnd b k s = .next t) :
    t.Fits none := by
  obtain rfl := Host.Outcome.next.inj hexec
  split
  · exact s.pinResetBlocks_fresh.enterStartUp
  · exact h

/-! ### The service commands (R168) -/

theorem State.setRegions_alike (s : State) (x : RegionTable) : s.Alike { s with regions := x } :=
  ⟨rfl, id, rfl, rfl, rfl, rfl, rfl, rfl, id⟩

/-- Nothing but the trace unit and the event unit has changed. -/
def State.UnitsOnly (s t : State) : Prop := ∃ x e, t = { s with trace := x, events := e }

theorem State.UnitsOnly.refl (s : State) : s.UnitsOnly s := ⟨s.trace, s.events, rfl⟩

theorem State.UnitsOnly.alike {s t : State} (h : s.UnitsOnly t) : s.Alike t := by
  obtain ⟨x, e, rfl⟩ := h
  exact ⟨rfl, id, rfl, rfl, rfl, rfl, rfl, rfl, id⟩

theorem State.setTrace_unitsOnly (s : State) (x : TraceUnit) : s.UnitsOnly { s with trace := x } := ⟨x, s.events, rfl⟩

theorem State.setEvents_unitsOnly (s : State) (e : EventUnit) : s.UnitsOnly { s with events := e } := ⟨s.trace, e, rfl⟩

theorem State.raise_unitsOnly (s : State) (src : EventSource) (d : Word) : s.UnitsOnly (s.raise src d) := ⟨_, _, rfl⟩

theorem State.runTraceConfigure_unitsOnly (s : State) (p : List Byte) : s.UnitsOnly (s.runTraceConfigure p).1 := by
  unfold State.runTraceConfigure
  split
  · split
    · exact .refl s
    · exact s.setTrace_unitsOnly _
  · exact .refl s

theorem State.runTraceStart_unitsOnly (s : State) (p : List Byte) : s.UnitsOnly (s.runTraceStart p).1 := by
  unfold State.runTraceStart
  split
  · exact s.setTrace_unitsOnly _
  · exact .refl s

theorem State.runTraceRead_unitsOnly (s : State) (p : List Byte) : s.UnitsOnly (s.runTraceRead p).1 := by
  unfold State.runTraceRead
  dsimp only
  split
  · exact s.setTrace_unitsOnly _
  · exact .refl s

theorem State.runEventConfig_unitsOnly (s : State) (p : List Byte) : s.UnitsOnly (s.runEventConfig p).1 := by
  unfold State.runEventConfig
  split
  · exact .refl s
  · exact s.setEvents_unitsOnly _

theorem State.runTakeEvent_unitsOnly (s : State) (p : List Byte) : s.UnitsOnly (s.runTakeEvent p).1 := by
  unfold State.runTakeEvent
  split
  · exact .refl s
  · exact s.setEvents_unitsOnly _

theorem State.runFinishEvent_unitsOnly (s : State) (p : List Byte) : s.UnitsOnly (s.runFinishEvent p).1 := by
  unfold State.runFinishEvent
  split
  · exact .refl s
  · exact s.setEvents_unitsOnly _

/-- The commands that report, and those of the trace unit and the event unit. -/
theorem replyOf_unitsOnly {c : Instr} (s : State) (p : List Byte)
    (hc : c = .echo ∨ c = .identify ∨ c = .queryStore ∨ c = .querySets ∨ c = .readRegion ∨ c = .traceConfigure ∨
      c = .traceStart ∨ c = .traceStop ∨ c = .traceRead ∨ c = .traceClear ∨ c = .traceStatus ∨ c = .eventConfig ∨
      c = .takeEvent ∨ c = .finishEvent ∨ c = .eventStatus ∨ c = .raiseEvent) : s.UnitsOnly (replyOf c p s).1 := by
  obtain rfl | rfl | rfl | rfl | rfl | rfl | rfl | rfl | rfl | rfl | rfl | rfl | rfl | rfl | rfl | rfl := hc
  · exact .refl s
  · exact .refl s
  · exact (s.runQueryStore_fst p).symm ▸ .refl s
  · exact .refl s
  · exact (s.runReadRegion_fst p).symm ▸ .refl s
  · exact s.runTraceConfigure_unitsOnly p
  · exact s.runTraceStart_unitsOnly p
  · exact s.setTrace_unitsOnly _
  · exact s.runTraceRead_unitsOnly p
  · exact s.setTrace_unitsOnly _
  · exact .refl s
  · exact s.runEventConfig_unitsOnly p
  · exact s.runTakeEvent_unitsOnly p
  · exact s.runFinishEvent_unitsOnly p
  · exact (s.runEventStatus_fst p).symm ▸ .refl s
  · exact s.raise_unitsOnly _ _

/-- READ_ENTRY marks at most the line that the entry names (R21, R23). -/
theorem State.runReadEntry_alike (us : List Upset) (s : State) (p : List Byte) : s.Alike (s.runReadEntry us p).1 := by
  unfold State.runReadEntry
  split
  · exact .refl s
  · rename_i r i hargs
    dsimp only
    split
    · exact .refl s
    · rename_i e he
      refine (s.upset_alike us).trans ?_
      unfold State.readOccupied
      dsimp only
      split
      · rename_i mask l hbody
        have hl : e.storeLine = some l := by rw [Entry.storeLine, hbody]
        unfold State.testWords
        split
        · exact State.lineFailed_alike (State.refs_ne_zero (s.upset us) (r := r) he hl)
        · exact .refl _
      · exact .refl _

/-- SCRUB_LINE zeroes a line of no table, and frees it (R36). -/
theorem State.runScrubLine_alike (us : List Upset) (s : State) (p : List Byte) : s.Alike (s.runScrubLine us p).1 := by
  unfold State.runScrubLine
  split
  · exact .refl s
  · rename_i l hl
    split
    · rename_i hbad
      have hzero {refs : LineIdx → Nat} (h : s.store.counts refs) : ((s.store.zeroLine l).upset us).counts refs := by
        obtain ⟨hlines, hfree, hlist, -⟩ := (s.store.zeroLine l).upset_frame us
        refine LineStore.counts.congr (h.congr (st' := s.store.zeroLine l) (fun m => ?_) rfl rfl) hlines hfree hlist
        by_cases hm : m = l
        · subst hm
          rw [LineStore.zeroLine_self]
          exact ⟨rfl, rfl⟩
        · rw [LineStore.zeroLine_ne _ hm]
          exact ⟨rfl, rfl⟩
      dsimp only
      split
      · exact State.setStore_alike hzero
      · refine State.setStore_alike fun h => LineStore.counts.scrubbed (hzero h) ?_
        obtain ⟨-, -, hlist, -⟩ := (s.store.zeroLine l).upset_frame us
        rw [hlist]
        exact List.contains_iff_mem.mp hbad
    · exact .refl s

theorem State.runSetFreeThreshold_alike (s : State) (p : List Byte) : s.Alike (s.runSetFreeThreshold p).1 := by
  unfold State.runSetFreeThreshold
  split
  · exact .refl s
  · exact State.setStore_alike fun h => h.congr (fun _ => ⟨rfl, rfl⟩) rfl rfl

/-- SET_MEMORY_TIMING leaves the requests at the port (R133). -/
theorem State.runSetMemoryTiming_fits {s : State} (h : s.Fits none) (p : List Byte) :
    (s.runSetMemoryTiming p).1.Fits none := by
  unfold State.runSetMemoryTiming
  split
  · exact h
  · rename_i ce hce
    split
    · exact h
    · split
      · exact h
      · refine h.setPort (h.port.congr (fun who => ?_) ?_ ?_)
        · cases ce <;> cases who <;> rfl
        · rw [MemPort.serving, MemPort.setTimeout_access]
          rfl
        · rw [MemPort.setTimeout_access]
          exact id

/-- Every command that answers when it executes keeps the invariants. -/
theorem replyOf_fits {c : Instr} {s : State} (h : s.Fits none) (hrw : s.revertWaits = false) (p : List Byte) :
    (replyOf c p s).1.Fits none := by
  cases c with
  | readEntry us => exact (s.runReadEntry_alike us p).fits h
  | queryStore => exact (replyOf_unitsOnly s p (by simp)).alike.fits h
  | scrubLine us => exact (s.runScrubLine_alike us p).fits h
  | setFreeThreshold => exact (s.runSetFreeThreshold_alike p).fits h
  | openSet => exact State.runOpenSet_fits h hrw p
  | cloneActive => exact State.runCloneActive_fits h hrw p
  | addEntry => exact State.runAddEntry_fits h hrw p
  | modifyEntry => exact State.runModifyEntry_fits h hrw p
  | removeEntry => exact State.runRemoveEntry_fits h hrw p
  | sealSet => exact State.runSealSet_fits h hrw p
  | unsealSet => exact State.runUnsealSet_fits h hrw p
  | verifySet us => exact State.runVerify_fits h us p
  | discardSet => exact State.runDiscardSet_fits h hrw p
  | commit => exact State.runCommit_fits h hrw p
  | cancelCommit => exact State.runCancel_fits h p
  | clearRetained => exact State.runClearRetained_fits h p
  | loadImage => exact State.runLoadImage_fits h hrw p
  | releaseHost => exact State.runReleaseHost_fits h p
  | setRegion => exact (s.runSetRegion_fst p).symm ▸ (s.setRegions_alike _).fits h
  | setBackground => exact (s.runSetBackground_fst p).symm ▸ (s.setRegions_alike _).fits h
  | readRegion => exact (replyOf_unitsOnly s p (by simp)).alike.fits h
  | setMemoryTiming => exact State.runSetMemoryTiming_fits h p
  | traceConfigure => exact (replyOf_unitsOnly s p (by simp)).alike.fits h
  | traceStart => exact (replyOf_unitsOnly s p (by simp)).alike.fits h
  | traceStop => exact (replyOf_unitsOnly s p (by simp)).alike.fits h
  | traceRead => exact (replyOf_unitsOnly s p (by simp)).alike.fits h
  | traceClear => exact (replyOf_unitsOnly s p (by simp)).alike.fits h
  | eventConfig => exact (replyOf_unitsOnly s p (by simp)).alike.fits h
  | takeEvent => exact (replyOf_unitsOnly s p (by simp)).alike.fits h
  | finishEvent => exact (replyOf_unitsOnly s p (by simp)).alike.fits h
  | eventStatus => exact (replyOf_unitsOnly s p (by simp)).alike.fits h
  | raiseEvent => exact (replyOf_unitsOnly s p (by simp)).alike.fits h
  | _ => exact h

/-- Every service command keeps the invariants. -/
theorem exec_service_fits {c : Instr} {code : Byte} {s t : State} (hc : commandCode c = some code) (h : s.Fits none)
    (hexec : exec c s = .next t) : t.Fits none := by
  obtain rfl | ⟨tag, p, rest, hoffer, rfl | rfl⟩ := exec_service_cases hc hexec
  · exact h
  · exact ((s.taken_alike rest).trans (State.respond_alike _ _ _ _)).fits h
  · obtain ⟨-, hno, -⟩ := hoffer
    have htaken := (s.taken_alike rest).fits h
    have hrw : (s.taken rest).revertWaits = false := by rw [State.revertWaits, show (s.taken rest).svp.executing = none from hno]
    cases c with
    | resetPart => exact State.setExecuting_fits htaken hno _ nofun
    | revert => exact State.runRevert_fits htaken hno _
    | _ => exact (State.respond_alike _ _ _ _).fits (replyOf_fits htaken hrw p)

/-! ### Every command -/

theorem exec_fits {c : Instr} {s t : State} (h : s.Fits none) (hexec : exec c s = .next t) : t.Fits none := by
  cases hcode : commandCode c with
  | some code => exact exec_service_fits hcode h hexec
  | none =>
    cases c with
    | pinReset => cases hexec; exact State.wf_iff.mp s.pinResetBlocks_fresh.wf
    | pinResetEnd b k => exact execPinResetEnd_fits h hexec
    | serviceReset => exact execServiceReset_fits h hexec
    | timeBaseStep => cases hexec; exact h.whenUp (State.tick_fits (State.expireAccess_fits (State.expireGate_fits h)))
    | hostRequest r => exact execHostRequest_fits h hexec
    | requestWithdrawn => exact execRequestWithdrawn_fits h hexec
    | acceptance us => exact execAcceptance_fits h hexec
    | accessComplete md us => exact execAccessComplete_fits h hexec
    | accessExpiry => cases hexec; exact h.whenUp (State.expireAccess_fits h)
    | effectPoint =>
      cases hexec
      refine h.whenUp ?_
      split
      · rename_i hdue
        rw [Bool.and_eq_true, Bool.not_eq_true'] at hdue
        exact State.commitEffect_fits h hdue.2
      · exact h
    | gateTimerExpiry => cases hexec; exact h.whenUp (State.expireGate_fits h)
    | revertEffect => exact execRevertEffect_fits h hexec
    | selectPeriodStart => exact (execSelectPeriodStart_alike hexec).fits h
    | statusHeaderSent bs => cases hexec; exact (s.inPeriod_alike bs).fits h
    | responseSent bs => cases hexec; exact (s.inPeriod_alike bs).fits h
    | requestFrame bs => cases hexec; exact (s.inPeriod_alike bs).fits h
    | malformedRequest bs => cases hexec; exact (s.inPeriod_alike bs).fits h
    | selectPeriodEnd bs => exact (execSelectPeriodEnd_alike hexec).fits h
    | unknownCommand => exact (execUnknownCommand_alike hexec).fits h
    | _ => cases hcode

/-- Every step keeps every invariant. -/
theorem step_wf {s t : State} (h : s.wf) (hstep : step s = .next t) : t.wf := by
  obtain ⟨-, rfl⟩ | ⟨c, rest, -, hexec⟩ := step_cases hstep
  · obtain ⟨h1, h2, h3, h4, h5, h6⟩ := h
    exact ⟨h1, h2, h3, h4, h5, h6⟩
  · obtain ⟨h1, h2, h3, h4, h5, h6⟩ := h
    have hrest : State.wf { s with pending := rest } := ⟨h1, h2, h3, h4, h5, h6⟩
    exact State.wf_iff.mpr (exec_fits (State.wf_iff.mp hrest) hexec)

/-- Settles O57: the control of the sets is part of what every step keeps. -/
theorem controlStaysTogether : Obligations.ControlStaysTogether := fun _ _ h hstep => (step_wf h hstep).controlled

/-- Settles O58: the accounting and the keys are part of what every step keeps. -/
theorem accountingKept : Obligations.AccountingKept := fun _ _ h hstep =>
  have hwf := step_wf h hstep
  ⟨hwf.accounted, hwf.keyed⟩

/-- Settles O59: the host side and the port are part of what every step keeps. -/
theorem hostAndPortStayTogether : Obligations.HostAndPortStayTogether := fun _ _ h hstep =>
  have hwf := step_wf h hstep
  ⟨hwf.heldIdle, hwf.txnFits, hwf.portFits⟩

end Sys2Proof.Machine
end

section
/-! PROOF. A frozen staged set keeps its entries and the words of its lines (O24): what each operation does to both. -/

namespace Sys2Proof.Machine

open Sys2Proof

set_option Elab.async false

/-! ### The staged set kept -/

/-- The staged table has the same entries, and the lines that they name have the same words. -/
structure State.KeepsSet (s t : State) : Prop where
  slots : (t.table .staged).slots = (s.table .staged).slots
  words : ∀ l : LineIdx, (s.table .staged).refs l ≠ 0 → t.store.lines[l].words = s.store.lines[l].words

/-- The staged set is kept, or is frozen no more. -/
def State.KeepsFrozen (s t : State) : Prop := t.scu.state.frozen = true → s.KeepsSet t

@[refl] theorem State.KeepsSet.refl (s : State) : s.KeepsSet s := ⟨rfl, fun _ _ => rfl⟩

theorem Table.refs_of_slots {t u : Table} (h : u.slots = t.slots) (l : LineIdx) : u.refs l = t.refs l :=
  Table.refs_congr (fun i => by rw [h]) l

@[trans] theorem State.KeepsSet.trans {s t u : State} (h : s.KeepsSet t) (g : t.KeepsSet u) : s.KeepsSet u where
  slots := g.slots.trans h.slots
  words l hl := (g.words l (by rw [Table.refs_of_slots h.slots]; exact hl)).trans (h.words l hl)

theorem State.KeepsSet.frozen {s t : State} (h : s.KeepsSet t) : s.KeepsFrozen t := fun _ => h

theorem State.KeepsSet.trans_frozen {s t u : State} (h : s.KeepsSet t) (g : t.KeepsFrozen u) : s.KeepsFrozen u :=
  fun hu => h.trans (g hu)

theorem State.KeepsFrozen.of_state {s t : State} {st : StagedState} (h : t.scu.state = st) (hst : st.frozen = false) :
    s.KeepsFrozen t := by
  intro hf
  rw [h, hst] at hf
  cases hf

/-- The staged table and the line store are the same. -/
theorem State.KeepsSet.of_same {s t : State} (htable : t.table .staged = s.table .staged) (hstore : t.store = s.store) :
    s.KeepsSet t := ⟨by rw [htable], fun _ _ => by rw [hstore]⟩

theorem State.Alike.keepsSet {s t : State} (h : s.Alike t) (hstore : t.store = s.store) : s.KeepsSet t :=
  .of_same (h.table .staged) hstore

theorem State.setScu_keepsSet (s : State) (c : Scu) : s.KeepsSet { s with scu := c } := .of_same rfl rfl

theorem State.respond_keepsSet (s : State) (tag : Byte) (r : ResultCode) (p : List Byte) : s.KeepsSet (s.respond tag r p) :=
  .of_same rfl rfl

theorem State.swapped_keepsSet (s : State) : s.KeepsSet s.swapped := .of_same rfl rfl

/-- Another set record over the same entries. -/
theorem State.Writes.keepsSet {s t : State} {x : Table} (h : s.Writes t .staged x)
    (hslots : x.slots = (s.table .staged).slots) (hstore : t.store = s.store) : s.KeepsSet t :=
  ⟨by rw [h.self, hslots], fun _ _ => by rw [hstore]⟩

/-! ### The line store -/

/-- A line written with its own words. -/
theorem LineStore.setLine_words (st : LineStore) {l : LineIdx} {x : StoreLine} (hx : x.words = st.lines[l].words) (m : LineIdx) :
    (st.setLine l x).lines[m].words = st.lines[m].words := by
  by_cases hm : m = l
  · subst hm
    exact (congrArg StoreLine.words (st.setLine_self m x)).trans hx
  · exact congrArg StoreLine.words (st.setLine_ne l m x hm)

theorem LineStore.release_words (st : LineStore) (l m : LineIdx) : (st.release l).lines[m].words = st.lines[m].words := by
  have hset := st.setLine_words (l := l) (x := { st.lines[l] with refCount := st.lines[l].refCount - 1 }) rfl m
  unfold LineStore.release
  dsimp only
  split
  · split
    · exact hset
    · exact hset
  · exact hset

theorem LineStore.releaseEntry_words (st : LineStore) (e : Entry) (l : LineIdx) :
    (st.releaseEntry e).lines[l].words = st.lines[l].words := by
  unfold LineStore.releaseEntry
  cases e.storeLine with
  | none => rfl
  | some m => exact st.release_words m l

theorem LineStore.releaseTable_words (st : LineStore) (t : Table) (l : LineIdx) :
    (st.releaseTable t).lines[l].words = st.lines[l].words := by
  unfold LineStore.releaseTable
  induction t.entries generalizing st with
  | nil => rfl
  | cons x es ih => exact (ih _).trans (st.releaseEntry_words x.2 l)

/-- The mark of a line leaves its words. -/
theorem State.lineFailed_keepsSet (s : State) (l : LineIdx) : s.KeepsSet (s.lineFailed l) := by
  have htable : (s.lineFailed l).table .staged = s.table .staged := by
    unfold State.table
    rw [s.lineFailed_tables, s.lineFailed_roles]
  refine ⟨by rw [htable], fun m _ => ?_⟩
  unfold State.lineFailed
  split
  · rfl
  · exact s.store.setLine_words (l := l) (x := { s.store.lines[l] with bad := true }) rfl m

/-! ### The host side -/

theorem State.strobe_keepsSet (s : State) (x : HostStrobe) : s.KeepsSet (s.strobe x) := .of_same rfl rfl

section
variable {s : State} {d : Decision} (hd : s.roles.distinct) (hletter : d.letter = s.roles.active)

include hd hletter

/-- The end of a transaction counts in the active table. -/
theorem State.endTransaction_keepsSet (okay : Bool) (outcome : TxnOutcome) (before : List (EventSource × Word)) :
    s.KeepsSet (s.endTransaction d okay outcome before) := by
  obtain ⟨hroles, -, -, hstore, -⟩ := s.endTransaction_keeps d okay outcome before
  have htables : (s.endTransaction d okay outcome before).tables = (s.countHit d).tables := by
    have hrecorded := s.endRecorded_keeps d okay outcome before
    rw [State.endTransaction_eq, State.leaveFlight_tables, State.gateTest_tables]
    exact hrecorded.2.2.2.2.2.2.2.2.2.2.2
  refine .of_same ?_ hstore
  unfold State.table
  rw [hroles, htables]
  unfold State.countHit
  split
  · split
    · exact Tables.get_set_ne _ _ _ _ (hletter ▸ hd.1.symm)
    · rfl
  · rfl

end

theorem State.serveRead_keepsSet (bs : List BeatSource) (t : Txn) (s : State) (hd : s.roles.distinct)
    (hletter : t.dec.letter = s.roles.active) : s.KeepsSet (s.serveRead bs t) := by
  induction bs generalizing t s with
  | nil => exact State.endTransaction_keepsSet hd hletter _ _ _
  | cons b rest ih =>
    unfold State.serveRead
    cases b with
    | memory => exact .of_same rfl rfl
    | target ce target => exact .of_same rfl rfl
    | store l =>
      dsimp only
      split
      · exact .of_same rfl rfl
      · split
        · exact (s.strobe_keepsSet _).trans (ih { t with done := t.done + 1 } (s.strobe _) hd hletter)
        · exact (s.lineFailed_keepsSet l).trans (.of_same rfl rfl)

theorem State.serveWrite_keepsSet (n : Nat) (t : Txn) (s : State) (hd : s.roles.distinct)
    (hletter : t.dec.letter = s.roles.active) : s.KeepsSet (s.serveWrite n t) := by
  induction n generalizing t s with
  | zero => exact State.endTransaction_keepsSet hd hletter _ _ _
  | succ n ih =>
    unfold State.serveWrite
    split
    · exact (s.strobe_keepsSet _).trans (ih t.next (s.strobe _) hd hletter)
    · exact .of_same rfl rfl

theorem State.serve_keepsSet {s : State} {t : Txn} (hd : s.roles.distinct) (hletter : t.dec.letter = s.roles.active) :
    s.KeepsSet (s.serve t) := by
  unfold State.serve
  split
  · exact State.endTransaction_keepsSet hd hletter _ _ _
  · split
    · split
      · exact State.endTransaction_keepsSet hd hletter _ _ _
      · exact s.serveWrite_keepsSet _ t hd hletter
    · exact s.serveRead_keepsSet _ t hd hletter

/-- The transaction in flight is that of the active table. -/
theorem State.txnFits.letter {s : State} (h : s.txnFits) {t : Txn} (ht : s.hbi.state = .inFlight t) :
    t.dec.letter = s.roles.active := by
  unfold State.txnFits at h
  rw [ht] at h
  exact h.1

theorem State.hostWord_keepsSet {s : State} (hd : s.roles.distinct) (htxn : s.txnFits) (md : Word) :
    s.KeepsSet (s.hostWord md) := by
  unfold State.hostWord
  split
  · rename_i t ht
    have hletter := htxn.letter ht
    dsimp only
    split
    · exact (s.strobe_keepsSet _).trans (State.serveWrite_keepsSet _ t.next _ hd hletter)
    · exact (s.strobe_keepsSet _).trans (State.serveRead_keepsSet _ { t with done := t.done + 1 } _ hd hletter)
  · exact .refl s

theorem State.raiseAll_keepsSet (s : State) (rs : List (EventSource × Word)) : s.KeepsSet (s.raiseAll rs) :=
  (s.raiseAll_alike rs).keepsSet (s.raiseAll_store rs)

theorem State.hostFailed_keepsSet {s : State} (hd : s.roles.distinct) (htxn : s.txnFits) (rs : List (EventSource × Word)) :
    s.KeepsSet (s.hostFailed rs) := by
  unfold State.hostFailed
  split
  · rename_i t ht
    exact State.endTransaction_keepsSet hd (htxn.letter ht) _ _ _
  · exact s.raiseAll_keepsSet rs

/-! ### Commit and revert -/

theorem State.commitBadLine_keepsSet (s : State) (pc : PendingCommit) : s.KeepsSet (s.commitBadLine pc) := by
  unfold State.commitBadLine
  dsimp only
  split
  · exact State.Writes.keepsSet (x := { s.table .staged with result := .badLine })
      (State.Writes.endStartUpLoad ⟨rfl, rfl, rfl, id, rfl, rfl⟩) rfl rfl
  · exact State.Writes.keepsSet (x := { s.table .staged with result := .badLine }) ⟨rfl, rfl, rfl, id, rfl, rfl⟩ rfl rfl

/-- A commit that takes effect leaves no staged set. -/
theorem State.commitDone_state (s : State) (pc : PendingCommit) : (s.commitDone pc).scu.state = .empty := by
  obtain ⟨-, -, -, -, -, -, -, -, -, -, hscu, -⟩ := s.committed_keeps
  have hstate : s.committed.scu.state = .empty := congrArg Scu.state hscu
  unfold State.commitDone
  dsimp only
  split
  · exact hstate
  · exact hstate

theorem State.commitEffect_keepsFrozen (s : State) : s.KeepsFrozen s.commitEffect := by
  unfold State.commitEffect
  split
  · exact (State.KeepsSet.refl s).frozen
  · split
    · exact (s.commitBadLine_keepsSet _).frozen
    · exact .of_state (s.commitDone_state _) rfl

theorem State.armCommit_keepsFrozen (s : State) (c : CommitArgs) (who : CommitRequester) : s.KeepsFrozen (s.armCommit c who) := by
  have harmed (pc : PendingCommit) : s.KeepsSet { s with scu := { s.scu with state := .commitPending, commit := some pc } } :=
    .of_same rfl rfl
  unfold State.armCommit
  dsimp only
  split
  · exact (harmed _).trans_frozen (State.commitEffect_keepsFrozen _)
  · exact (harmed _).frozen

theorem State.armStartUp_keepsFrozen (s : State) (c : CommitArgs) : s.KeepsFrozen (s.armStartUp c) := by
  unfold State.armStartUp
  split
  · exact s.armCommit_keepsFrozen c _
  · exact (State.KeepsSet.refl s).frozen

theorem State.requestStartUpCommit_keepsFrozen (s : State) : s.KeepsFrozen s.requestStartUpCommit := by
  unfold State.requestStartUpCommit
  split
  · exact State.KeepsSet.frozen (.of_same rfl rfl)
  · exact s.armStartUp_keepsFrozen _

theorem State.takeDeferred_keepsFrozen (s : State) : s.KeepsFrozen s.takeDeferred := by
  unfold State.takeDeferred
  split
  · exact (State.KeepsSet.refl s).frozen
  · exact (s.setScu_keepsSet _).trans_frozen (State.armStartUp_keepsFrozen _ _)

theorem State.expireGate_keepsSet (s : State) : s.KeepsSet s.expireGate := by
  unfold State.expireGate
  dsimp only
  split
  · split <;> exact .of_same rfl rfl
  · exact .refl s

/-- A REVERT swaps the roles of the other two tables. -/
theorem State.revertEffect_keepsSet (s : State) (tag : Byte) : s.KeepsSet (s.revertEffect tag) := by
  unfold State.revertEffect
  dsimp only
  split
  · exact s.respond_keepsSet _ _ _
  · exact (s.swapped_keepsSet.trans ((State.traceMarker_alike _ _).keepsSet (State.traceMarker_store _ _))).trans
      (State.respond_keepsSet _ _ _ _)

theorem State.runRevert_keepsSet (s : State) (c : QueuedCommand) : s.KeepsSet (s.runRevert c) := by
  unfold State.runRevert
  split
  · exact .of_same rfl rfl
  · exact .of_same rfl rfl
  · split
    · exact .of_same rfl rfl
    · exact s.revertEffect_keepsSet c.tag

/-! ### Verification -/

theorem State.resultWritten_writes (s : State) (res : VerifyResult) :
    s.Writes (s.resultWritten res) .staged { s.table .staged with result := res } := ⟨rfl, rfl, rfl, id, rfl, rfl⟩

theorem State.setLoader_keepsSet (s : State) (l : Loader) : s.KeepsSet { s with loader := l } := .of_same rfl rfl

theorem State.raise_keepsSet (s : State) (src : EventSource) (d : Word) : s.KeepsSet (s.raise src d) := .of_same rfl rfl

theorem State.endStartUpLoad_keepsSet (s : State) : s.KeepsSet s.endStartUpLoad := .of_same rfl rfl

theorem State.endVerification_keepsFrozen (s : State) (res : VerifyResult) : s.KeepsFrozen (s.endVerification res) := by
  have hwritten : s.KeepsSet (s.resultWritten res) := (s.resultWritten_writes res).keepsSet rfl rfl
  have hraised (src : EventSource) (d : Word) : s.KeepsSet ((s.resultWritten res).raise src d) :=
    hwritten.trans (State.raise_keepsSet _ _ _)
  cases hv : s.scu.verifier with
  | none =>
    unfold State.endVerification
    rw [hv]
    exact (State.KeepsSet.refl s).frozen
  | some v =>
    cases hwho : v.starter with
    | verifySet =>
      unfold State.endVerification
      rw [hv]
      simp only [hwho]
      exact (hraised _ _).frozen
    | commandLoad =>
      rw [State.endVerification_commandLoad hv hwho]
      exact ((hraised _ _).trans (State.setLoader_keepsSet _ _)).frozen
    | startUpLoad =>
      by_cases hok : res = .ok
      · subst hok
        have hverified : s.KeepsSet s.startUpVerified := (hraised _ _).trans (State.setLoader_keepsSet _ _)
        rw [State.endVerification_startUpOk hv hwho]
        exact hverified.trans_frozen (State.requestStartUpCommit_keepsFrozen _)
      · rw [State.endVerification_startUpLoad hv hwho hok, ← State.endStartUpLoad_eq]
        exact ((hraised _ _).trans (State.endStartUpLoad_keepsSet _)).frozen

theorem State.requestOrigin_keepsFrozen (s : State) (e : Entry) (v : VerifyRun) : s.KeepsFrozen (s.requestOrigin e v) := by
  unfold State.requestOrigin
  dsimp only
  split
  · exact s.endVerification_keepsFrozen _
  · exact State.KeepsSet.frozen (.of_same rfl rfl)

theorem State.walkEntries_keepsFrozen (todo : List (Slot × Entry)) (v : VerifyRun) (s : State) :
    s.KeepsFrozen (s.walkEntries todo v) := by
  induction todo generalizing v with
  | nil => exact (s.setScu_keepsSet _).trans_frozen (State.endVerification_keepsFrozen _ _)
  | cons x rest ih =>
    rw [State.walkEntries_cons]
    split
    · exact (s.lineFailed_keepsSet _).trans_frozen (State.endVerification_keepsFrozen _ _)
    · split
      · exact ih _
      · exact s.requestOrigin_keepsFrozen _ _

theorem State.startVerification_keepsFrozen (s : State) (starter : VerifyStarter) : s.KeepsFrozen (s.startVerification starter) := by
  have hw : s.Writes (s.verifying starter) .staged { s.table .staged with result := .none } := ⟨rfl, rfl, rfl, id, rfl, rfl⟩
  exact (hw.keepsSet rfl rfl).trans_frozen (State.walkEntries_keepsFrozen _ _ (s.verifying starter))

theorem State.verifierWord_keepsFrozen (s : State) (w : Word) : s.KeepsFrozen (s.verifierWord w) := by
  unfold State.verifierWord
  split
  · exact (State.KeepsSet.refl s).frozen
  · split
    · exact (State.KeepsSet.refl s).frozen
    · dsimp only
      split
      · exact s.requestOrigin_keepsFrozen _ _
      · split
        · exact s.walkEntries_keepsFrozen _ _
        · exact s.endVerification_keepsFrozen _

/-! ### The service commands -/

/-- The states in which the entries are not frozen are EMPTY, OPEN and LOADING. -/
theorem StagedState.frozen_iff {st : StagedState} : st.frozen = true ↔ st ≠ .empty ∧ st ≠ .opened ∧ st ≠ .loading := by
  cases st <;> decide

theorem State.runCommit_keepsFrozen (s : State) (p : List Byte) : s.KeepsFrozen (s.runCommit p).1 := by
  have hsame : s.KeepsFrozen s := (State.KeepsSet.refl s).frozen
  unfold State.runCommit
  cases s.scu.state with
  | verified =>
    dsimp only
    split
    · exact hsame
    · split
      · exact hsame
      · exact s.armCommit_keepsFrozen _ _
  | empty => exact hsame
  | opened => exact hsame
  | sealed => exact hsame
  | failed => exact hsame
  | loading => exact hsame
  | verifying => exact hsame
  | commitPending => exact hsame

theorem State.runCancel_keepsSet (s : State) (p : List Byte) : s.KeepsSet (s.runCancel p).1 := by
  unfold State.runCancel
  dsimp only
  split
  · split
    · exact .of_same rfl rfl
    · exact .of_same rfl rfl
  · exact .refl s

theorem State.runClearRetained_keepsSet {s : State} (hd : s.roles.distinct) (p : List Byte) :
    s.KeepsSet (s.runClearRetained p).1 := by
  have hw : s.Writes (s.releaseRole .retained) .retained Table.empty := ⟨rfl, rfl, rfl, id, rfl, rfl⟩
  have hstaged := hw.other hd (q := .staged) nofun
  refine ⟨congrArg Table.slots hstaged, fun l _ => ?_⟩
  exact s.store.releaseTable_words _ l

theorem State.runVerify_keepsFrozen (s : State) (p : List Byte) : s.KeepsFrozen (s.runVerify [] p).1 := by
  unfold State.runVerify
  dsimp only
  split
  · exact s.startVerification_keepsFrozen .verifySet
  · exact (State.KeepsSet.refl s).frozen

theorem State.runReadEntry_keepsSet (s : State) (p : List Byte) : s.KeepsSet (s.runReadEntry [] p).1 := by
  unfold State.runReadEntry
  split
  · exact .refl s
  · dsimp only
    split
    · exact .refl s
    · unfold State.readOccupied
      dsimp only
      split
      · unfold State.testWords
        split
        · exact s.lineFailed_keepsSet _
        · exact .refl s
      · exact .refl s

/-- SCRUB_LINE writes a line that no entry names. -/
theorem State.runScrubLine_keepsSet {s : State} (h : s.accounted) (p : List Byte) : s.KeepsSet (s.runScrubLine [] p).1 := by
  obtain ⟨⟨hcount, -, -, -, hbad⟩, -⟩ := State.accounted_iff.mp h
  have hother {l m : LineIdx} (hl : l ∈ s.store.badList) (hm : (s.table .staged).refs m ≠ 0) : m ≠ l := by
    rintro rfl
    have hzero := ((hbad m).mp hl).1
    rw [hcount m] at hzero
    exact hm (State.refs_of_free hzero)
  unfold State.runScrubLine
  split
  · exact .refl s
  · rename_i l _
    split
    · rename_i hlisted
      have hl := List.contains_iff_mem.mp hlisted
      have hzero (m : LineIdx) (hm : (s.table .staged).refs m ≠ 0) : (s.store.zeroLine l).lines[m].words = s.store.lines[m].words := by
        rw [LineStore.zeroLine_ne _ (hother hl hm)]
      dsimp only
      split
      · exact ⟨rfl, fun m hm => hzero m hm⟩
      · refine ⟨rfl, fun m hm => ?_⟩
        show (LineStore.scrubbed _ l).lines[m].words = _
        rw [LineStore.scrubbed_ne _ (hother hl hm)]
        exact hzero m hm
    · exact .refl s

/-- A command that only an EMPTY or OPEN set accepts is refused. -/
theorem replyOf_of_open {c : Instr} {s : State} (h : s.scu.state.frozen = true) (p : List Byte)
    (hc : c = .openSet ∨ c = .cloneActive ∨ c = .addEntry ∨ c = .modifyEntry ∨ c = .removeEntry ∨ c = .sealSet ∨
      c = .loadImage) : (replyOf c p s).1 = s := by
  obtain ⟨h1, h2, -⟩ := StagedState.frozen_iff.mp h
  obtain rfl | rfl | rfl | rfl | rfl | rfl | rfl := hc
  · exact congrArg Prod.fst (if_neg h1)
  · exact congrArg Prod.fst (if_neg h1)
  · exact congrArg Prod.fst (if_neg h2)
  · exact congrArg Prod.fst (if_neg h2)
  · exact congrArg Prod.fst (if_neg h2)
  · exact congrArg Prod.fst (if_neg h2)
  · exact congrArg Prod.fst (if_neg h1)

/-- UNSEAL_SET opens the set again. -/
theorem State.runUnsealSet_keepsFrozen (s : State) (p : List Byte) : s.KeepsFrozen (s.runUnsealSet p).1 := by
  unfold State.runUnsealSet
  split
  · exact .of_state (st := .opened) rfl rfl
  · exact (State.KeepsSet.refl s).frozen

/-- DISCARD_SET empties the set. -/
theorem State.runDiscardSet_keepsFrozen (s : State) (p : List Byte) : s.KeepsFrozen (s.runDiscardSet p).1 := by
  unfold State.runDiscardSet
  split
  · exact (State.KeepsSet.refl s).frozen
  · split
    · exact (State.KeepsSet.refl s).frozen
    · exact .of_state (st := .empty) rfl rfl

/-- The disturbances that come with a command (log 6). -/
def upsetsOf : Instr → List Upset
  | .acceptance us => us
  | .accessComplete _ us => us
  | .readEntry us => us
  | .scrubLine us => us
  | .verifySet us => us
  | _ => []

theorem replyOf_keepsFrozen {c : Instr} {s : State} (h : s.Base) (hs : s.scu.state.frozen = true) (hus : upsetsOf c = [])
    (p : List Byte) : s.KeepsFrozen (replyOf c p s).1 := by
  have hrefused (hc : (replyOf c p s).1 = s) : s.KeepsFrozen (replyOf c p s).1 := by
    rw [hc]
    exact (State.KeepsSet.refl s).frozen
  have hstaged (x : State) (htables : x.tables = s.tables) (hroles : x.roles = s.roles) (hstore : x.store = s.store) :
      s.KeepsFrozen x := by
    refine State.KeepsSet.frozen (.of_same ?_ hstore)
    unfold State.table
    rw [htables, hroles]
  have hunits (hc : s.UnitsOnly (replyOf c p s).1) : s.KeepsFrozen (replyOf c p s).1 := by
    obtain ⟨x, e, heq⟩ := hc
    rw [heq]
    exact hstaged _ rfl rfl rfl
  cases c with
  | readEntry us =>
    obtain rfl : us = [] := hus
    exact (s.runReadEntry_keepsSet p).frozen
  | scrubLine us =>
    obtain rfl : us = [] := hus
    exact (State.runScrubLine_keepsSet h.accounted p).frozen
  | verifySet us =>
    obtain rfl : us = [] := hus
    exact s.runVerify_keepsFrozen p
  | openSet => exact hrefused (replyOf_of_open hs p (by simp))
  | cloneActive => exact hrefused (replyOf_of_open hs p (by simp))
  | addEntry => exact hrefused (replyOf_of_open hs p (by simp))
  | modifyEntry => exact hrefused (replyOf_of_open hs p (by simp))
  | removeEntry => exact hrefused (replyOf_of_open hs p (by simp))
  | sealSet => exact hrefused (replyOf_of_open hs p (by simp))
  | loadImage => exact hrefused (replyOf_of_open hs p (by simp))
  | unsealSet => exact s.runUnsealSet_keepsFrozen p
  | discardSet => exact s.runDiscardSet_keepsFrozen p
  | commit => exact s.runCommit_keepsFrozen p
  | cancelCommit => exact (s.runCancel_keepsSet p).frozen
  | clearRetained => exact (State.runClearRetained_keepsSet h.distinct p).frozen
  | setFreeThreshold =>
    show s.KeepsFrozen (s.runSetFreeThreshold p).1
    unfold State.runSetFreeThreshold
    split
    · exact (State.KeepsSet.refl s).frozen
    · exact State.KeepsSet.frozen ⟨rfl, fun _ _ => rfl⟩
  | setRegion =>
    have heq : (replyOf .setRegion p s).1 = _ := s.runSetRegion_fst p
    rw [heq]
    exact hstaged _ rfl rfl rfl
  | setBackground =>
    have heq : (replyOf .setBackground p s).1 = _ := s.runSetBackground_fst p
    rw [heq]
    exact hstaged _ rfl rfl rfl
  | releaseHost =>
    show s.KeepsFrozen (s.runReleaseHost p).1
    unfold State.runReleaseHost
    split
    · exact hstaged _ rfl rfl rfl
    · exact hstaged _ rfl rfl rfl
  | setMemoryTiming =>
    show s.KeepsFrozen (s.runSetMemoryTiming p).1
    unfold State.runSetMemoryTiming
    split
    · exact hstaged _ rfl rfl rfl
    · split
      · exact hstaged _ rfl rfl rfl
      · split
        · exact hstaged _ rfl rfl rfl
        · exact hstaged _ rfl rfl rfl
  | echo => exact hunits (replyOf_unitsOnly s p (by simp))
  | identify => exact hunits (replyOf_unitsOnly s p (by simp))
  | queryStore => exact hunits (replyOf_unitsOnly s p (by simp))
  | querySets => exact hunits (replyOf_unitsOnly s p (by simp))
  | readRegion => exact hunits (replyOf_unitsOnly s p (by simp))
  | traceConfigure => exact hunits (replyOf_unitsOnly s p (by simp))
  | traceStart => exact hunits (replyOf_unitsOnly s p (by simp))
  | traceStop => exact hunits (replyOf_unitsOnly s p (by simp))
  | traceRead => exact hunits (replyOf_unitsOnly s p (by simp))
  | traceClear => exact hunits (replyOf_unitsOnly s p (by simp))
  | traceStatus => exact hunits (replyOf_unitsOnly s p (by simp))
  | eventConfig => exact hunits (replyOf_unitsOnly s p (by simp))
  | takeEvent => exact hunits (replyOf_unitsOnly s p (by simp))
  | finishEvent => exact hunits (replyOf_unitsOnly s p (by simp))
  | eventStatus => exact hunits (replyOf_unitsOnly s p (by simp))
  | raiseEvent => exact hunits (replyOf_unitsOnly s p (by simp))
  | _ => exact hrefused rfl

theorem exec_service_keepsFrozen {c : Instr} {code : Byte} {s t : State} (hc : commandCode c = some code) (h : s.Base)
    (hs : s.scu.state.frozen = true) (hus : upsetsOf c = []) (hexec : exec c s = .next t) : s.KeepsFrozen t := by
  have htaken (rest : List QueuedCommand) : s.KeepsSet (s.taken rest) := .of_same rfl rfl
  have hanswer {u v : State} (tag : Byte) (r : ResultCode) (p : List Byte) (hu : u.KeepsFrozen v) : u.KeepsFrozen (v.respond tag r p) :=
    fun hf => (hu hf).trans (v.respond_keepsSet tag r p)
  obtain rfl | ⟨tag, p, rest, -, rfl | rfl⟩ := exec_service_cases hc hexec
  · exact (State.KeepsSet.refl _).frozen
  · exact State.KeepsSet.frozen (.of_same rfl rfl)
  · refine (htaken rest).trans_frozen ?_
    have hreply (q : List Byte) := replyOf_keepsFrozen (s := s.taken rest) ((s.taken_alike rest).base h) hs hus q
    cases c with
    | resetPart => exact State.KeepsSet.frozen (.of_same rfl rfl)
    | revert => exact (State.runRevert_keepsSet _ _).frozen
    | _ => exact hanswer _ _ _ (hreply _)

/-! ### The other commands -/

theorem State.enterStartUp_notFrozen {s t : State} (h : t.scu = Scu.reset) : s.KeepsFrozen t.enterStartUp := by
  unfold State.enterStartUp
  dsimp only
  split
  · exact .of_state (st := .loading) rfl rfl
  · exact .of_state (st := .empty) (congrArg Scu.state h) rfl

/-- The host, the verifier or nobody takes the word of an access while the staged set is frozen: not the loader. -/
theorem State.notLoading {s : State} (hs : s.scu.state.frozen = true) : s.waits .loader = false := by
  obtain ⟨-, -, h⟩ := StagedState.frozen_iff.mp hs
  exact beq_eq_false_iff_ne.mpr h

theorem State.freePort_keepsSet (s : State) : s.KeepsSet s.freePort := .of_same rfl rfl

theorem State.expireAccess_keepsFrozen {s : State} (h : s.Fits none) (hs : s.scu.state.frozen = true) :
    s.KeepsFrozen s.expireAccess := by
  unfold State.expireAccess
  split
  · exact (State.KeepsSet.refl s).frozen
  · rename_i q hq
    split
    · split
      · exact (s.freePort_keepsSet.trans (State.raiseAll_keepsSet _ _)).frozen
      · rename_i hup
        obtain ⟨hfits, hwait⟩ := State.freePort_fits_off h hq (Bool.eq_false_iff.mpr hup)
        cases hwho : q.who with
        | host => exact (s.freePort_keepsSet.trans (State.hostFailed_keepsSet hfits.base.distinct hfits.base.txnFits _)).frozen
        | loader =>
          rw [hwho] at hwait
          exact absurd (hwait.symm.trans (State.notLoading (s := s.freePort) hs)) nofun
        | verifier =>
          exact (s.freePort_keepsSet.trans (State.raiseAll_keepsSet _ _)).trans_frozen (State.endVerification_keepsFrozen _ _)
    · exact (State.KeepsSet.refl s).frozen

theorem State.KeepsSet.whenUp {s : State} {f : State → State} (h : s.KeepsSet (f s)) : s.KeepsSet (s.whenUp f) := by
  unfold State.whenUp
  split
  · exact .refl s
  · exact h

theorem State.KeepsFrozen.whenUp {s : State} {f : State → State} (h : s.KeepsFrozen (f s)) : s.KeepsFrozen (s.whenUp f) := by
  unfold State.whenUp
  split
  · exact (State.KeepsSet.refl s).frozen
  · exact h

theorem execAccessComplete_keepsFrozen {s t : State} {md : Word} (h : s.Fits none) (hs : s.scu.state.frozen = true)
    (hexec : execAccessComplete md [] s = .next t) : s.KeepsFrozen t := by
  obtain rfl := Host.Outcome.next.inj hexec
  refine State.KeepsFrozen.whenUp ?_
  split
  · exact (State.KeepsSet.refl s).frozen
  · rename_i q hq
    split
    · exact s.freePort_keepsSet.frozen
    · rename_i hup
      obtain ⟨hfits, hwait⟩ := State.freePort_fits_off h hq (Bool.eq_false_iff.mpr hup)
      cases hwho : q.who with
      | host => exact (s.freePort_keepsSet.trans (State.hostWord_keepsSet hfits.base.distinct hfits.base.txnFits md)).frozen
      | loader =>
        rw [hwho] at hwait
        exact absurd (hwait.symm.trans (State.notLoading (s := s.freePort) hs)) nofun
      | verifier => exact s.freePort_keepsSet.trans_frozen (State.verifierWord_keepsFrozen _ md)

/-- A transaction accepted and not yet served. -/
def State.begun (s : State) (t : Txn) : State := { s with hbi := { s.hbi with state := .inFlight t, strobes := [] } }

theorem execAcceptance_keepsSet {s t : State} (h : s.Base) (hexec : execAcceptance [] s = .next t) : s.KeepsSet t := by
  obtain rfl := Host.Outcome.next.inj hexec
  refine State.KeepsSet.whenUp ?_
  dsimp only
  split
  · split
    · have hbegun (x : Txn) : s.KeepsSet (s.begun x) := .of_same rfl rfl
      have hserve {x : Txn} (hx : x.dec.letter = s.roles.active) : s.KeepsSet ((s.begun x).serve x) :=
        (hbegun x).trans (State.serve_keepsSet (s := s.begun x) h.distinct hx)
      exact hserve rfl
    · exact .refl s
  · exact .refl s

theorem execPinResetEnd_keepsFrozen {b k : BitVec 2} {s t : State} (hexec : execPinResetEnd b k s = .next t) :
    s.KeepsFrozen t := by
  obtain rfl := Host.Outcome.next.inj hexec
  split
  · exact State.enterStartUp_notFrozen rfl
  · exact (State.KeepsSet.refl s).frozen

theorem execServiceReset_keepsFrozen {s t : State} (hexec : execServiceReset s = .next t) : s.KeepsFrozen t := by
  obtain rfl := Host.Outcome.next.inj hexec
  refine State.KeepsFrozen.whenUp ?_
  split
  · exact State.enterStartUp_notFrozen rfl
  · exact (State.KeepsSet.refl s).frozen

theorem execHostRequest_keepsSet {r : HostRequest} {s t : State} (hexec : execHostRequest r s = .next t) : s.KeepsSet t := by
  obtain rfl := Host.Outcome.next.inj hexec
  refine State.KeepsSet.whenUp ?_
  dsimp only
  split <;> exact .of_same rfl rfl

theorem execRequestWithdrawn_keepsSet {s t : State} (hexec : execRequestWithdrawn s = .next t) : s.KeepsSet t := by
  obtain rfl := Host.Outcome.next.inj hexec
  refine State.KeepsSet.whenUp ?_
  dsimp only
  split <;> exact .of_same rfl rfl

theorem execEffectPoint_keepsFrozen {s t : State} (hexec : execEffectPoint s = .next t) : s.KeepsFrozen t := by
  obtain rfl := Host.Outcome.next.inj hexec
  refine State.KeepsFrozen.whenUp ?_
  split
  · exact s.commitEffect_keepsFrozen
  · exact (State.KeepsSet.refl s).frozen

theorem execRevertEffect_keepsFrozen {s t : State} (hexec : execRevertEffect s = .next t) : s.KeepsFrozen t := by
  obtain rfl := Host.Outcome.next.inj hexec
  refine State.KeepsFrozen.whenUp ?_
  dsimp only
  split
  · exact (State.KeepsSet.refl s).frozen
  · rename_i x _
    split
    · have hidle : s.KeepsSet { s with svp := { s.svp with executing := none } } := .of_same rfl rfl
      exact (hidle.trans (State.revertEffect_keepsSet _ x.tag)).trans_frozen (State.takeDeferred_keepsFrozen _)
    · exact (State.KeepsSet.refl s).frozen

/-- The set whose commit the gate's timer withdraws is VERIFIED again. -/
theorem State.expireGate_frozen {s : State} (hs : s.scu.state.frozen = true) : s.expireGate.scu.state.frozen = true := by
  unfold State.expireGate
  dsimp only
  split
  · split <;> rfl
  · exact hs

theorem execTimeBaseStep_keepsFrozen {s t : State} (h : s.Fits none) (hs : s.scu.state.frozen = true)
    (hexec : execTimeBaseStep s = .next t) : s.KeepsFrozen t := by
  obtain rfl := Host.Outcome.next.inj hexec
  refine State.KeepsFrozen.whenUp ?_
  have hexpired : s.KeepsFrozen s.expireGate.expireAccess :=
    s.expireGate_keepsSet.trans_frozen (State.expireAccess_keepsFrozen (State.expireGate_fits h) (State.expireGate_frozen hs))
  have htick (x : State) : x.KeepsSet x.tick := .of_same rfl rfl
  exact fun hf => (hexpired hf).trans (htick _)

/-! ### The service port -/

theorem State.clockByte_keepsSet (s : State) (b : Byte) : s.KeepsSet (s.clockByte b) := by
  refine (s.clockByte_alike b).keepsSet ?_
  obtain ⟨-, hbyte⟩ | ⟨v, tag, detail, hbyte⟩ | ⟨c, choices, room, hbyte, -⟩ := s.clockByte_cases b
  · exact (congrArg State.store hbyte).trans rfl
  · exact (congrArg State.store hbyte).trans rfl
  · exact (congrArg State.store hbyte).trans rfl

theorem State.clock_keepsSet (s : State) (bs : List Byte) : s.KeepsSet (s.clock bs) := by
  induction bs generalizing s with
  | nil => exact .refl s
  | cons b bs ih => exact (s.clockByte_keepsSet b).trans (ih _)

theorem State.inPeriod_keepsSet (s : State) (bs : List Byte) : s.KeepsSet (s.inPeriod bs) := by
  unfold State.inPeriod
  split
  · exact s.clock_keepsSet bs
  · exact .refl s

theorem State.decideAtEnd_keepsSet (s : State) : s.KeepsSet s.decideAtEnd := by
  obtain ⟨p, -, hend | ⟨detail, hend⟩⟩ := s.decideAtEnd_cases <;> rw [hend] <;> exact .of_same rfl rfl

theorem execSelectPeriodStart_keepsSet {s t : State} (hexec : execSelectPeriodStart s = .next t) : s.KeepsSet t := by
  refine (execSelectPeriodStart_alike hexec).keepsSet ?_
  obtain rfl := Host.Outcome.next.inj hexec
  split
  · rfl
  · split <;> rfl

theorem execSelectPeriodEnd_keepsSet {bs : List Byte} {s t : State} (hexec : execSelectPeriodEnd bs s = .next t) :
    s.KeepsSet t := by
  obtain rfl := Host.Outcome.next.inj hexec
  split
  · have hdecided := (s.clock_keepsSet bs).trans (State.decideAtEnd_keepsSet _)
    exact hdecided.trans (.of_same rfl rfl)
  · exact .of_same rfl rfl

theorem execUnknownCommand_keepsSet {s t : State} (hexec : execUnknownCommand s = .next t) : s.KeepsSet t := by
  refine (execUnknownCommand_alike hexec).keepsSet ?_
  obtain rfl := Host.Outcome.next.inj hexec
  split
  · rfl
  · rename_i q u hnext
    split
    · rfl
    · obtain ⟨-, hu⟩ := State.offers_of_nextCommand hnext
      rw [hu]
      exact State.respond_store _ _ _ _

/-! ### Every command -/

theorem exec_keepsFrozen {c : Instr} {s t : State} (h : s.Fits none) (hs : s.scu.state.frozen = true) (hus : upsetsOf c = [])
    (hexec : exec c s = .next t) : s.KeepsFrozen t := by
  cases hcode : commandCode c with
  | some code => exact exec_service_keepsFrozen hcode h.base hs hus hexec
  | none =>
    cases c with
    | pinReset => cases hexec; exact .of_state (st := .empty) rfl rfl
    | pinResetEnd b k => exact execPinResetEnd_keepsFrozen hexec
    | serviceReset => exact execServiceReset_keepsFrozen hexec
    | timeBaseStep => exact execTimeBaseStep_keepsFrozen h hs hexec
    | hostRequest r => exact (execHostRequest_keepsSet hexec).frozen
    | requestWithdrawn => exact (execRequestWithdrawn_keepsSet hexec).frozen
    | acceptance us =>
      obtain rfl : us = [] := hus
      exact (execAcceptance_keepsSet h.base hexec).frozen
    | accessComplete md us =>
      obtain rfl : us = [] := hus
      exact execAccessComplete_keepsFrozen h hs hexec
    | accessExpiry => cases hexec; exact State.KeepsFrozen.whenUp (State.expireAccess_keepsFrozen h hs)
    | effectPoint => exact execEffectPoint_keepsFrozen hexec
    | gateTimerExpiry => cases hexec; exact s.expireGate_keepsSet.whenUp.frozen
    | revertEffect => exact execRevertEffect_keepsFrozen hexec
    | selectPeriodStart => exact (execSelectPeriodStart_keepsSet hexec).frozen
    | statusHeaderSent bs => cases hexec; exact (s.inPeriod_keepsSet bs).frozen
    | responseSent bs => cases hexec; exact (s.inPeriod_keepsSet bs).frozen
    | requestFrame bs => cases hexec; exact (s.inPeriod_keepsSet bs).frozen
    | malformedRequest bs => cases hexec; exact (s.inPeriod_keepsSet bs).frozen
    | selectPeriodEnd bs => exact (execSelectPeriodEnd_keepsSet hexec).frozen
    | unknownCommand => exact (execUnknownCommand_keepsSet hexec).frozen
    | _ => cases hcode

/-- Settles O24: the words of a staged line are kept, since its entry counts in its table's references. -/
theorem frozenSetKeepsEntriesAndWords : Obligations.FrozenSetKeepsEntriesAndWords := by
  intro c s t h hs hexec ht hus
  have hnone : upsetsOf c = [] := by cases c <;> exact hus
  obtain ⟨hslots, hwords⟩ := exec_keepsFrozen (State.wf_iff.mp h) hs hnone hexec ht
  refine ⟨hslots, fun i e l hi hl => hwords l ?_⟩
  exact (Table.refs_pos hi hl).ne'

end Sys2Proof.Machine
end
